-- ==== Sys2Proof/Word.lean ====
section
/-!
DEFINITION. The word types of the block. Every value is unsigned and bit 0 is the least significant
bit (00_scope.md R9).
-/

namespace Sys2Proof

/-- A byte: 8 bits, unsigned (00_scope.md R9). A note-or-none is one, with 0 for "no key" (R11). -/
abbrev Byte := BitVec 8

/-- The decode word SW of a SETUP packet, and a USB MIDI Event Packet read as one number
(30_encoding.md R74, R77). -/
abbrev Word32 := BitVec 32

/-- The 64-bit payload ports `evt_data`, `rd_data` and `in_data` (10_state.md R30). -/
abbrev Payload := BitVec 64

end Sys2Proof
end

