-- ==== Sys2Proof/Syntax.lean ====
section
/-!
DEFINITION. What the block decodes and produces: one constructor of `Instr` for each row of
opcode_table.json, in the table's order, with the fields the row leaves free (30_encoding.md R87).
-/

namespace Sys2Proof

/-- The five formats of opcode_table.json (30_encoding.md R87). -/
inductive Format where
  /-- The decode word SW of a SETUP packet (30_encoding.md R74). -/
  | setupSw
  /-- The engine event channel (30_encoding.md R78, R79). -/
  | evt
  /-- A USB MIDI Event Packet (30_encoding.md R76, R77). -/
  | pkt32
  /-- The pressed mask `NOT key_n` (30_encoding.md R81, 42_key_tracker.md R161). -/
  | keyword
  /-- The phase register (10_state.md R27). -/
  | phase
  deriving DecidableEq, Repr

/-- One engine event as the ports carry it: `evt_kind`, `evt_len`, `evt_data` (10_state.md R32). -/
structure EngineEvent where
  /-- `evt_kind[2:0]` (30_encoding.md R78). -/
  kind : BitVec 3
  /-- `evt_len[3:0]` (30_encoding.md R79). -/
  len : BitVec 4
  /-- `evt_data[63:0]`, byte j at bits 8j+7:8j (30_encoding.md R79). -/
  data : Payload
  deriving DecidableEq, Repr

/-- The nine SETUP classes, in the order of 30_encoding.md R75. -/
inductive SetupClass where
  | getDescriptorDevice
  | getDescriptorConfig
  | stdOther
  | classH2d
  | classD2h
  | vendorH2d
  | vendorD2h
  | reservedH2d
  | reservedD2h
  deriving DecidableEq, Repr

/-- The rows of opcode_table.json. -/
inductive Instr where
  /-- GET_DESCRIPTOR_DEVICE (40_descriptor_rom.md R120). -/
  | getDescriptorDevice (recipient : BitVec 5) (wValueLo : Byte)
  /-- GET_DESCRIPTOR_CONFIG (40_descriptor_rom.md R121): every `dtype` but 0x01. -/
  | getDescriptorConfig (recipient : BitVec 5) (wValueLo dtype : Byte)
  /-- STD_OTHER (41_protocol_handler.md R133): every standard request but GET_DESCRIPTOR. -/
  | stdOther (dir : BitVec 1) (recipient : BitVec 5) (bRequest wValueLo dtype : Byte)
  /-- CLASS_H2D (41_protocol_handler.md R131). -/
  | classH2d (recipient : BitVec 5) (bRequest wValueLo dtype : Byte)
  /-- CLASS_D2H (41_protocol_handler.md R132). -/
  | classD2h (recipient : BitVec 5) (bRequest wValueLo dtype : Byte)
  /-- VENDOR_H2D (41_protocol_handler.md R134). -/
  | vendorH2d (recipient : BitVec 5) (bRequest wValueLo dtype : Byte)
  /-- VENDOR_D2H (41_protocol_handler.md R138). -/
  | vendorD2h (recipient : BitVec 5) (bRequest wValueLo dtype : Byte)
  /-- RESERVED_H2D (41_protocol_handler.md R139). -/
  | reservedH2d (recipient : BitVec 5) (bRequest wValueLo dtype : Byte)
  /-- RESERVED_D2H (41_protocol_handler.md R140). -/
  | reservedD2h (recipient : BitVec 5) (bRequest wValueLo dtype : Byte)
  /-- EVT_NONE: no event, the POLL phase ends (44_main_loop.md R201). -/
  | evtNone
  /-- EVT_SETUP (41_protocol_handler.md R130); `evt_len` is ignored (30_encoding.md R79). -/
  | evtSetup (len : BitVec 4) (data : Payload)
  /-- EVT_CTRL_READ (41_protocol_handler.md R135); `evt_data` is ignored. -/
  | evtCtrlRead (len : BitVec 4) (data : Payload)
  /-- EVT_CTRL_WRITE (41_protocol_handler.md R136). -/
  | evtCtrlWrite (len : BitVec 4) (data : Payload)
  /-- EVT_INT_OUT (41_protocol_handler.md R137). -/
  | evtIntOut (len : BitVec 4) (data : Payload)
  /-- EVT_RESERVED_5, kind 101 (60_exceptions.md R222). -/
  | evtReserved5 (len : BitVec 4) (data : Payload)
  /-- EVT_RESERVED_6_7, kinds 110 and 111; `low` is `evt_kind[0]` (60_exceptions.md R222). -/
  | evtReserved67 (low : BitVec 1) (len : BitVec 4) (data : Payload)
  /-- NOTE_OFF, the packet [0x08, 0x80, k, 0x00] (43_packet_builder.md R181). -/
  | noteOff (k : Byte)
  /-- NOTE_ON, the packet [0x09, 0x90, k, 0x7F] (43_packet_builder.md R182). -/
  | noteOn (k : Byte)
  /-- KEY_SAMPLE_60: bit 0 pressed; `above` is `P[5:1]` (42_key_tracker.md R161). -/
  | keySample60 (above : BitVec 5)
  /-- KEY_SAMPLE_62: bit 1 is the lowest pressed; `above` is `P[5:2]`. -/
  | keySample62 (above : BitVec 4)
  /-- KEY_SAMPLE_64: bit 2 is the lowest pressed; `above` is `P[5:3]`. -/
  | keySample64 (above : BitVec 3)
  /-- KEY_SAMPLE_65: bit 3 is the lowest pressed; `above` is `P[5:4]`. -/
  | keySample65 (above : BitVec 2)
  /-- KEY_SAMPLE_67: bit 4 is the lowest pressed; `above` is `P[5]`. -/
  | keySample67 (above : BitVec 1)
  /-- KEY_SAMPLE_69: bit 5 alone is pressed. -/
  | keySample69
  /-- KEY_SAMPLE_NONE: no key is pressed. -/
  | keySampleNone
  /-- PHASE_KICK (44_main_loop.md R200). -/
  | phaseKick
  /-- PHASE_POLL (44_main_loop.md R201). -/
  | phasePoll
  /-- PHASE_SAMPLE (44_main_loop.md R202). -/
  | phaseSample
  /-- PHASE_EMIT (44_main_loop.md R203). -/
  | phaseEmit
  deriving DecidableEq, Repr

end Sys2Proof
end

