-- ==== Sys2Proof/Machine/State.lean ====
section
/-!
DEFINITION. The state of the block (10_state.md R20 to R39), why a step can stop, and the state after
reset.
-/

namespace Sys2Proof.Machine

/-- The phase register (10_state.md R27). -/
inductive Phase where
  | kick
  | poll
  | sample
  | emit
  deriving DecidableEq, Repr

/-- The byte memories: address and byte, in one canonical form (`Memory.wf`): addresses strictly
rising and no entry equal to what an unlisted address reads as. -/
abbrev Memory := List Host.Cell

/-- The input ports (10_state.md R30). The outside drives them between steps (log 3). -/
structure Pins where
  /-- `rst`, power-on or watchdog reset (R38). -/
  rst : Bool
  /-- `key_n[5:0]`, active-low (R31). -/
  keyN : BitVec 6
  /-- `evt_kind[2:0]` (R32). -/
  evtKind : BitVec 3
  /-- `evt_len[3:0]` (R32). -/
  evtLen : BitVec 4
  /-- `evt_data[63:0]` (R32). -/
  evtData : Payload
  /-- `in_ready`, the bus engine's level (R25, R34). -/
  inReady : Bool
  /-- `rom_addr[6:0]` (R36). -/
  romAddr : BitVec 7
  deriving DecidableEq, Repr

/-- A table row offered from outside to be run alone by the next step (log 2). -/
structure Slot where
  /-- The format the bytes are read in. -/
  format : Format
  /-- The bytes, lowest first. -/
  bytes : List Byte
  deriving DecidableEq, Repr

/-- The whole state of the block. -/
structure State where
  /-- `lastReportedKey`, 8 bits (R21). -/
  lastReportedKey : Byte
  /-- `currentKey`, 8 bits (R22). -/
  currentKey : Byte
  /-- `changed`, the pending-change flag (R23). -/
  changed : Bool
  /-- `pendingEmptyFrameRequired` (R24); `zlp_req` is this bit (R35). -/
  pendingEmptyFrameRequired : Bool
  /-- The phase register (R27). -/
  phase : Phase
  /-- The descriptor ROM (20_memory.md R50): the cells that differ from the build's image (log 7). -/
  rom : Memory
  /-- The IN staging buffer `inbuf[0..7]` (20_memory.md R55). -/
  inbuf : Memory
  /-- The control-read buffer `rdbuf[0..6]` (20_memory.md R56). -/
  rdbuf : Memory
  /-- `resp_code[1:0]` (R33, 30_encoding.md R80). -/
  respCode : BitVec 2
  /-- `resp_base[6:0]` (R33). -/
  respBase : BitVec 7
  /-- `resp_len[6:0]` (R33). -/
  respLen : BitVec 7
  /-- `rd_len[3:0]` (R33). -/
  rdLen : BitVec 4
  /-- `rd_data[63:0]` (R33). -/
  rdData : Payload
  /-- `wr_ret[7:0]` (R33). -/
  wrRet : Byte
  /-- `in_submit`, the submission strobe (R34). -/
  inSubmit : Bool
  /-- `in_len[3:0]` (R34). -/
  inLen : BitVec 4
  /-- `in_data[63:0]` (R34). -/
  inData : Payload
  /-- `wdt_kick`, the watchdog kick strobe (R37). -/
  wdtKick : Bool
  /-- `led_n[5:0]`, unconstrained (R37). -/
  ledN : BitVec 6
  /-- The input ports as they stand for the next step (R30). -/
  pins : Pins
  /-- The MODEL's own: port values the outside has arranged for the steps after the next (log 3). -/
  script : List Pins
  /-- The MODEL's own: numbers the free values, one count a step (log 4). -/
  clock : Nat
  /-- The MODEL's own: a row offered to be run alone (log 2). -/
  slot : Option Slot
  deriving DecidableEq, Repr

/-- Why the model stops with a fault. The chip has no trap (60_exceptions.md R220). -/
inductive Fault where
  /-- A submission reached while `in_ready` was 0, with `in_len` and `in_data` (60_exceptions.md
  R221). Raised by `submit` alone; safe: the spec asks for it, and no step reaches it. -/
  | submitWhileBusy (inLen : BitVec 4) (inData : Payload)
  deriving DecidableEq, Repr

/-- Why the model refuses. -/
inductive Refusal where
  /-- An instruction without a meaning, raised by `exec` alone; safe. No arm raises it. -/
  | notModelled (mnemonic : String)
  /-- `RefusedEngineEvent`, with the event (60_exceptions.md R222): `evt_kind` 101, 110 or 111, or
  CTRL_READ, CTRL_WRITE or INT_OUT with `evt_len` over 8. Raised by those events' meanings; safe. -/
  | refusedEngineEvent (e : EngineEvent)
  /-- The slot holds bytes that are no row of its format. Raised by `step` alone; safe: the slot is
  the model's own and no run from reset fills it (log 2). -/
  | undecodable (slot : Slot)
  deriving DecidableEq, Repr

/-- The input ports in `State.reset`: `rst` just released and the lines idle (log 3). -/
def Pins.idle : Pins :=
  { rst := false, keyN := 0b111111, evtKind := 0, evtLen := 0, evtData := 0, inReady := false,
    romAddr := 0 }

/-- The block right after reset (10_state.md R39, 70_reset_and_hazards.md R240). The answer ports,
`in_len`, `in_data` and `led_n`, which R39 leaves unspecified, are 0 (log 5); the buffers are not
written yet (log 6). -/
def State.reset : State :=
  { lastReportedKey := 0
    currentKey := 0
    changed := false
    pendingEmptyFrameRequired := false
    phase := .kick
    rom := []
    inbuf := []
    rdbuf := []
    respCode := 0
    respBase := 0
    respLen := 0
    rdLen := 0
    rdData := 0
    wrRet := 0
    inSubmit := false
    inLen := 0
    inData := 0
    wdtKick := false
    ledN := 0
    pins := Pins.idle
    script := []
    clock := 0
    slot := none }

end Sys2Proof.Machine
end

