-- ==== Sys2Proof/Machine/Flags.lean ====
section
/-!
DEFINITION. The two flags of the block and how each is computed (10_state.md R26).
-/

namespace Sys2Proof.Machine

/-- EDGE_DETECT: `changed <- changed OR (sample != lastReportedKey)`; never cleared here
(42_key_tracker.md R163, 20_memory.md R62). -/
def changedAfterSample (changed : Bool) (currentKey lastReportedKey : Byte) : Bool :=
  changed || currentKey != lastReportedKey

/-- `pendingEmptyFrameRequired <- (n == 8)` on a submission of `n` bytes (43_packet_builder.md R186). -/
def emptyFrameAfterSubmit (n : Nat) : Bool := n == 8

/-- `pendingEmptyFrameRequired <- 1` on a class host-to-device SETUP (41_protocol_handler.md R131). -/
def emptyFrameAfterClassOut : Bool := true

/-- `changed <- 0` when EMIT completes (44_main_loop.md R204). -/
def changedAfterEmit : Bool := false

end Sys2Proof.Machine
end

