-- ==== Sys2Proof/WellFormed.lean ====
section
/-!
DEFINITION. Which operands the spec gives a row of opcode_table.json.
-/

namespace Sys2Proof

/-- The operands lie in the row's own part of the encoding space: an earlier row of the first-match
table of 30_encoding.md R75 does not take the word. Every other row takes every operand. -/
def Instr.encodable : Instr → Bool
  | .getDescriptorConfig _ _ dtype => dtype != 0x01
  | .stdOther dir _ bRequest _ _ => !(dir == 1 && bRequest == 0x06)
  | .getDescriptorDevice _ _ | .classH2d _ _ _ _ | .classD2h _ _ _ _ | .vendorH2d _ _ _ _
  | .vendorD2h _ _ _ _ | .reservedH2d _ _ _ _ | .reservedD2h _ _ _ _ | .evtNone | .evtSetup _ _
  | .evtCtrlRead _ _ | .evtCtrlWrite _ _ | .evtIntOut _ _ | .evtReserved5 _ _
  | .evtReserved67 _ _ _ | .noteOff _ | .noteOn _ | .keySample60 _ | .keySample62 _
  | .keySample64 _ | .keySample65 _ | .keySample67 _ | .keySample69 | .keySampleNone | .phaseKick
  | .phasePoll | .phaseSample | .phaseEmit => true

/-- The notes the block uses, {60, 62, 64, 65, 67, 69} (00_scope.md R11). -/
def legalNotes : List Byte := [60, 62, 64, 65, 67, 69]

/-- A note: one of {60, 62, 64, 65, 67, 69} (00_scope.md R11). -/
def isNote (k : Byte) : Bool := legalNotes.contains k

/-- A note-or-none: 0 or a note (00_scope.md R11, 10_state.md R21 and R22). -/
def isNoteOrNone (k : Byte) : Bool := k == 0 || isNote k

/-- The longest `evt_len` of CTRL_READ, CTRL_WRITE and INT_OUT (30_encoding.md R79). -/
def maxEventLen : Nat := 8

/-- The operands have the values the spec gives the row: encodable, `k` a note in a packet
(30_encoding.md R77), `evt_len` at most 8 in a data-stage or interrupt-OUT event (R79). -/
def Instr.wellFormed (i : Instr) : Bool :=
  i.encodable && match i with
  | .noteOff k | .noteOn k => isNote k
  | .evtCtrlRead len _ | .evtCtrlWrite len _ | .evtIntOut len _ => decide (len.toNat ≤ maxEventLen)
  | .getDescriptorDevice _ _ | .getDescriptorConfig _ _ _ | .stdOther _ _ _ _ _ | .classH2d _ _ _ _
  | .classD2h _ _ _ _ | .vendorH2d _ _ _ _ | .vendorD2h _ _ _ _ | .reservedH2d _ _ _ _
  | .reservedD2h _ _ _ _ | .evtNone | .evtSetup _ _ | .evtReserved5 _ _ | .evtReserved67 _ _ _
  | .keySample60 _ | .keySample62 _ | .keySample64 _ | .keySample65 _ | .keySample67 _
  | .keySample69 | .keySampleNone | .phaseKick | .phasePoll | .phaseSample | .phaseEmit => true

end Sys2Proof
end

