-- ==== Sys2Proof/Decode.lean ====
section
/-!
DEFINITION. The decoders of 30_encoding.md, one for each format of opcode_table.json, total on any
bytes and rejecting by name; then the encoder, written from the same tables.
-/

namespace Sys2Proof

/-- Why a sequence of bytes is no row of a format. -/
inductive DecodeError where
  /-- The format does not have this many bytes (30_encoding.md R84). -/
  | wrongLength
  /-- A bit is set that the port does not have (30_encoding.md R81, 10_state.md R30). -/
  | bitOutsidePort
  /-- The four bytes are neither of the two packet forms (30_encoding.md R77). -/
  | notAPacket
  deriving DecidableEq, Repr

/-! ## Bytes and words -/

/-- Byte `j` of a number laid out little-endian, byte 0 in the lowest bits (20_memory.md R54). -/
def byteOf (w j : Nat) : Byte := BitVec.ofNat 8 (w >>> (8 * j))

/-- The first `n` bytes of a number, byte 0 first. -/
def bytesOf (n w : Nat) : List Byte := (List.range n).map (byteOf w)

/-- Byte `j` of a payload port, at bits 8j+7:8j (30_encoding.md R79). -/
def payloadByte (data : Payload) (j : Nat) : Byte := data.extractLsb' (8 * j) 8

/-! ## The SETUP decode table (30_encoding.md R70 to R75) -/

/-- The decode word of the eight bytes in `evt_data`: SW is s[3], s[2], s[1], s[0] from the most
significant byte down (30_encoding.md R74); s[4] to s[7] take no part. -/
def swOf (data : Payload) : Word32 := data.extractLsb' 0 32

/-- `SW[7]`, the direction: 0 host to device, 1 device to host (30_encoding.md R71). -/
def swDir (sw : Word32) : BitVec 1 := sw.extractLsb' 7 1

/-- `SW[6:5]`, the request type (30_encoding.md R71). -/
def swType (sw : Word32) : BitVec 2 := sw.extractLsb' 5 2

/-- `SW[4:0]`, the recipient (30_encoding.md R74). -/
def swRecipient (sw : Word32) : BitVec 5 := sw.extractLsb' 0 5

/-- `SW[15:8]`, bRequest (30_encoding.md R74). -/
def swRequest (sw : Word32) : Byte := sw.extractLsb' 8 8

/-- `SW[23:16]`, the low byte of wValue (30_encoding.md R74). -/
def swValueLo (sw : Word32) : Byte := sw.extractLsb' 16 8

/-- `SW[31:24]`, the descriptor-type discriminator (30_encoding.md R73, R74). -/
def swDtype (sw : Word32) : Byte := sw.extractLsb' 24 8

/-- The `mask` column of 30_encoding.md R75. -/
def setupMask : SetupClass → Word32
  | .getDescriptorDevice => 0xFF00FFE0
  | .getDescriptorConfig => 0x0000FFE0
  | .stdOther => 0x00000060
  | .classH2d => 0x000000E0
  | .classD2h => 0x000000E0
  | .vendorH2d => 0x000000E0
  | .vendorD2h => 0x000000E0
  | .reservedH2d => 0x000000E0
  | .reservedD2h => 0x000000E0

/-- The `match` column of 30_encoding.md R75. -/
def setupPattern : SetupClass → Word32
  | .getDescriptorDevice => 0x01000680
  | .getDescriptorConfig => 0x00000680
  | .stdOther => 0x00000000
  | .classH2d => 0x00000020
  | .classD2h => 0x000000A0
  | .vendorH2d => 0x00000040
  | .vendorD2h => 0x000000C0
  | .reservedH2d => 0x00000060
  | .reservedD2h => 0x000000E0

/-- A row matches when `(SW AND mask) == match` (30_encoding.md R74). -/
def setupMatches (c : SetupClass) (sw : Word32) : Bool := sw &&& setupMask c == setupPattern c

/-- The first matching row of 30_encoding.md R75, in the table's order. Row 9 is the one left: every
word matches exactly one row after the first-match rule. -/
def classify (sw : Word32) : SetupClass :=
  if setupMatches .getDescriptorDevice sw then .getDescriptorDevice
  else if setupMatches .getDescriptorConfig sw then .getDescriptorConfig
  else if setupMatches .stdOther sw then .stdOther
  else if setupMatches .classH2d sw then .classH2d
  else if setupMatches .classD2h sw then .classD2h
  else if setupMatches .vendorH2d sw then .vendorH2d
  else if setupMatches .vendorD2h sw then .vendorD2h
  else if setupMatches .reservedH2d sw then .reservedH2d
  else .reservedD2h

/-- The row of a SETUP packet with its fields (30_encoding.md R74, R75). -/
def decodeSetup (sw : Word32) : Instr :=
  match classify sw with
  | .getDescriptorDevice => .getDescriptorDevice (swRecipient sw) (swValueLo sw)
  | .getDescriptorConfig => .getDescriptorConfig (swRecipient sw) (swValueLo sw) (swDtype sw)
  | .stdOther =>
      .stdOther (swDir sw) (swRecipient sw) (swRequest sw) (swValueLo sw) (swDtype sw)
  | .classH2d => .classH2d (swRecipient sw) (swRequest sw) (swValueLo sw) (swDtype sw)
  | .classD2h => .classD2h (swRecipient sw) (swRequest sw) (swValueLo sw) (swDtype sw)
  | .vendorH2d => .vendorH2d (swRecipient sw) (swRequest sw) (swValueLo sw) (swDtype sw)
  | .vendorD2h => .vendorD2h (swRecipient sw) (swRequest sw) (swValueLo sw) (swDtype sw)
  | .reservedH2d => .reservedH2d (swRecipient sw) (swRequest sw) (swValueLo sw) (swDtype sw)
  | .reservedD2h => .reservedD2h (swRecipient sw) (swRequest sw) (swValueLo sw) (swDtype sw)

/-! ## The engine event channel (30_encoding.md R78, R79) -/

/-- The row of an engine event: every `evt_kind` is a row of the table (30_encoding.md R78). -/
def decodeEvent (e : EngineEvent) : Instr :=
  match e.kind with
  | 0 => .evtNone
  | 1 => .evtSetup e.len e.data
  | 2 => .evtCtrlRead e.len e.data
  | 3 => .evtCtrlWrite e.len e.data
  | 4 => .evtIntOut e.len e.data
  | 5 => .evtReserved5 e.len e.data
  | 6 => .evtReserved67 0 e.len e.data
  | 7 => .evtReserved67 1 e.len e.data

/-! ## The packet forms (30_encoding.md R77) -/

/-- The mask of both packet rows (30_encoding.md R77). -/
def packetMask : Word32 := 0xFF00FFFF

/-- The `match` of NOTE_OFF (30_encoding.md R77). -/
def noteOffPattern : Word32 := 0x00008008

/-- The `match` of NOTE_ON (30_encoding.md R77). -/
def noteOnPattern : Word32 := 0x7F009009

/-- Field `k`, `word[23:16]` (30_encoding.md R77). -/
def packetNote (w : Word32) : Byte := w.extractLsb' 16 8

/-- The row of a packet word, whose byte 0 is the first on the wire (30_encoding.md R77). -/
def decodePacket (w : Word32) : Except DecodeError Instr :=
  if w &&& packetMask == noteOffPattern then .ok (.noteOff (packetNote w))
  else if w &&& packetMask == noteOnPattern then .ok (.noteOn (packetNote w))
  else .error .notAPacket

/-! ## The key word (42_key_tracker.md R161) -/

/-- The row of the priority decode: the lowest set bit of P wins (42_key_tracker.md R161). -/
def decodeKeys (p : BitVec 6) : Instr :=
  if p.getLsbD 0 then .keySample60 (p.extractLsb' 1 5)
  else if p.getLsbD 1 then .keySample62 (p.extractLsb' 2 4)
  else if p.getLsbD 2 then .keySample64 (p.extractLsb' 3 3)
  else if p.getLsbD 3 then .keySample65 (p.extractLsb' 4 2)
  else if p.getLsbD 4 then .keySample67 (p.extractLsb' 5 1)
  else if p.getLsbD 5 then .keySample69
  else .keySampleNone

/-! ## The phase register (10_state.md R27) -/

/-- The row of a phase code: KICK 0, POLL 1, SAMPLE 2, EMIT 3 (10_state.md R27). -/
def decodePhase (c : BitVec 2) : Instr :=
  match c with
  | 0 => .phaseKick
  | 1 => .phasePoll
  | 2 => .phaseSample
  | 3 => .phaseEmit

/-! ## Bytes to rows -/

/-- A byte that carries a port of `n` bits, with no bit set above them. -/
def fitsPort (n : Nat) (b : Byte) : Bool := decide (b.toNat < 2 ^ n)

/-- Four bytes as a word, the first in the lowest bits (20_memory.md R55, 30_encoding.md R74). -/
def word32 (b0 b1 b2 b3 : Byte) : Word32 := b3 ++ b2 ++ b1 ++ b0

/-- Eight bytes as a payload, the first in the lowest bits (30_encoding.md R79). -/
def payload64 (b0 b1 b2 b3 b4 b5 b6 b7 : Byte) : Payload :=
  b7 ++ b6 ++ b5 ++ b4 ++ b3 ++ b2 ++ b1 ++ b0

/-- How many bytes the model lays a row of the format out in. An event is a kind byte, a length byte
and the eight payload bytes (log 11: the spec gives an event ports and no layout). -/
def formatBytes : Format → Nat
  | .setupSw => 4
  | .evt => 10
  | .pkt32 => 4
  | .keyword => 1
  | .phase => 1

/-- The decoder over bytes, lowest first. -/
def decodeBytes : Format → List Byte → Except DecodeError Instr
  | .setupSw, [s0, s1, s2, s3] => .ok (decodeSetup (word32 s0 s1 s2 s3))
  | .evt, [k, l, d0, d1, d2, d3, d4, d5, d6, d7] =>
      if fitsPort 3 k && fitsPort 4 l then
        .ok (decodeEvent ⟨k.setWidth 3, l.setWidth 4, payload64 d0 d1 d2 d3 d4 d5 d6 d7⟩)
      else .error .bitOutsidePort
  | .pkt32, [b0, b1, b2, b3] => decodePacket (word32 b0 b1 b2 b3)
  | .keyword, [p] =>
      if fitsPort 6 p then .ok (decodeKeys (p.setWidth 6)) else .error .bitOutsidePort
  | .phase, [c] =>
      if fitsPort 2 c then .ok (decodePhase (c.setWidth 2)) else .error .bitOutsidePort
  | _, _ => .error .wrongLength

/-! ## Rows to bytes -/

/-- The decode word of a SETUP row from its fields (30_encoding.md R74). -/
def packSw (dir : BitVec 1) (type : BitVec 2) (recipient : BitVec 5)
    (bRequest wValueLo dtype : Byte) : List Byte :=
  [dir ++ type ++ recipient, bRequest, wValueLo, dtype]

/-- The bytes of an event (log 11). -/
def packEvent (kind : BitVec 3) (len : BitVec 4) (data : Payload) : List Byte :=
  kind.setWidth 8 :: len.setWidth 8 :: (List.range 8).map (payloadByte data)

/-- The format of a row in opcode_table.json. -/
def Instr.format : Instr → Format
  | .getDescriptorDevice _ _ | .getDescriptorConfig _ _ _ | .stdOther _ _ _ _ _
  | .classH2d _ _ _ _ | .classD2h _ _ _ _ | .vendorH2d _ _ _ _ | .vendorD2h _ _ _ _
  | .reservedH2d _ _ _ _ | .reservedD2h _ _ _ _ => .setupSw
  | .evtNone | .evtSetup _ _ | .evtCtrlRead _ _ | .evtCtrlWrite _ _ | .evtIntOut _ _
  | .evtReserved5 _ _ | .evtReserved67 _ _ _ => .evt
  | .noteOff _ | .noteOn _ => .pkt32
  | .keySample60 _ | .keySample62 _ | .keySample64 _ | .keySample65 _ | .keySample67 _
  | .keySample69 | .keySampleNone => .keyword
  | .phaseKick | .phasePoll | .phaseSample | .phaseEmit => .phase

/-- The bytes of a row, lowest first: the inverse of `decodeBytes` on the row's own format. -/
def encode : Instr → List Byte
  | .getDescriptorDevice r v => packSw 1 0b00 r 0x06 v 0x01
  | .getDescriptorConfig r v d => packSw 1 0b00 r 0x06 v d
  | .stdOther dir r b v d => packSw dir 0b00 r b v d
  | .classH2d r b v d => packSw 0 0b01 r b v d
  | .classD2h r b v d => packSw 1 0b01 r b v d
  | .vendorH2d r b v d => packSw 0 0b10 r b v d
  | .vendorD2h r b v d => packSw 1 0b10 r b v d
  | .reservedH2d r b v d => packSw 0 0b11 r b v d
  | .reservedD2h r b v d => packSw 1 0b11 r b v d
  | .evtNone => packEvent 0 0 0
  | .evtSetup l d => packEvent 1 l d
  | .evtCtrlRead l d => packEvent 2 l d
  | .evtCtrlWrite l d => packEvent 3 l d
  | .evtIntOut l d => packEvent 4 l d
  | .evtReserved5 l d => packEvent 5 l d
  | .evtReserved67 low l d => packEvent (0b11#2 ++ low) l d
  | .noteOff k => [0x08, 0x80, k, 0x00]
  | .noteOn k => [0x09, 0x90, k, 0x7F]
  | .keySample60 a => [(a ++ 0b1#1).setWidth 8]
  | .keySample62 a => [(a ++ 0b10#2).setWidth 8]
  | .keySample64 a => [(a ++ 0b100#3).setWidth 8]
  | .keySample65 a => [(a ++ 0b1000#4).setWidth 8]
  | .keySample67 a => [(a ++ 0b10000#5).setWidth 8]
  | .keySample69 => [0b100000]
  | .keySampleNone => [0]
  | .phaseKick => [0]
  | .phasePoll => [1]
  | .phaseSample => [2]
  | .phaseEmit => [3]

/-! ## Pseudo-events (30_encoding.md R86) -/

/-- A SETUP event from its eight bytes (30_encoding.md R85); `evt_len` is ignored and set to 0. -/
def setupEvent (s0 s1 s2 s3 s4 s5 s6 s7 : Byte) : EngineEvent :=
  ⟨1, 0, payload64 s0 s1 s2 s3 s4 s5 s6 s7⟩

/-- `GET_DEVICE_DESCRIPTOR <wLength>` (30_encoding.md R86). -/
def getDeviceDescriptorEvent (wLength : BitVec 16) : EngineEvent :=
  setupEvent 0x80 0x06 0x00 0x01 0x00 0x00 (wLength.extractLsb' 0 8) (wLength.extractLsb' 8 8)

/-- `GET_CONFIG_DESCRIPTOR <wLength>` (30_encoding.md R86). -/
def getConfigDescriptorEvent (wLength : BitVec 16) : EngineEvent :=
  setupEvent 0x80 0x06 0x00 0x02 0x00 0x00 (wLength.extractLsb' 0 8) (wLength.extractLsb' 8 8)

/-- `GET_STRING_DESCRIPTOR <i> <wLength>` (30_encoding.md R86). -/
def getStringDescriptorEvent (i : Byte) (wLength : BitVec 16) : EngineEvent :=
  setupEvent 0x80 0x06 i 0x03 0x09 0x04 (wLength.extractLsb' 0 8) (wLength.extractLsb' 8 8)

/-- `CLASS_OUT_REQUEST` (30_encoding.md R86). -/
def classOutRequestEvent : EngineEvent := setupEvent 0x21 0 0 0 0 0 0 0

/-- `SET_CONFIGURATION <v>` (30_encoding.md R86). -/
def setConfigurationEvent (v : Byte) : EngineEvent := setupEvent 0x00 0x09 v 0 0 0 0 0

/-- `CTRL_READ <maxLen>` (30_encoding.md R85). -/
def ctrlReadEvent (maxLen : BitVec 4) : EngineEvent := ⟨2, maxLen, 0⟩

/-- `CTRL_WRITE <len>` with its bytes (30_encoding.md R85). -/
def ctrlWriteEvent (len : BitVec 4) (data : Payload) : EngineEvent := ⟨3, len, data⟩

/-- `INT_OUT <len> [<bytes>]` (30_encoding.md R85). -/
def intOutEvent (len : BitVec 4) (data : Payload) : EngineEvent := ⟨4, len, data⟩

/-- No event: the POLL phase ends (30_encoding.md R78). -/
def noneEvent : EngineEvent := ⟨0, 0, 0⟩

/-- `keys=press(i)`: `key_n` with bit `i` 0 and all other bits 1 (30_encoding.md R86). -/
def keysPress (i : Nat) : BitVec 6 := ~~~(1#6 <<< i)

/-- `keys=none` (30_encoding.md R86). -/
def keysNone : BitVec 6 := 0b111111

/-! ## The numbered words of opcode_table.json -/

/-- The format in which a numbered word of opcode_table.json is read. The table numbers the words of
its five formats from bit 0 alike and the formats overlap, so a number alone does not name one
(log 12): a word of at most 8 bits is read in the narrowest format that holds it (PHASE 2 bits, EVT 3
bits, KEYWORD 6 bits), else as a SETUP word; a longer one is a packet form where it has one's fixed
bits, else a SETUP word, and an event when it is longer than 32 bits. -/
def tableFormat (nbits w : Nat) : Format :=
  if nbits ≤ 8 then
    if w < 4 then .phase else if w < 8 then .evt else if w < 64 then .keyword else .setupSw
  else if nbits ≤ 32 then
    if BitVec.ofNat 32 w &&& packetMask == noteOffPattern
        || BitVec.ofNat 32 w &&& packetMask == noteOnPattern then .pkt32 else .setupSw
  else .evt

/-- The bytes of a numbered word in its format, zero above the bits given. -/
def tableBytes (nbits w : Nat) : List Byte := bytesOf (formatBytes (tableFormat nbits w)) w

/-- The row the decoder reads from a numbered word of opcode_table.json. -/
def decodeTableWord (nbits w : Nat) : Option Instr :=
  match decodeBytes (tableFormat nbits w) (tableBytes nbits w) with
  | .ok i => some i
  | .error _ => none

end Sys2Proof
end

