-- ==== Sys2Proof/Machine/Operands.lean ====
section
/-!
DEFINITION. The operands the block takes and the values it forms from them (30_encoding.md R82,
42_key_tracker.md R161, 43_packet_builder.md R180 to R184).
-/

namespace Sys2Proof.Machine

/-- `pressed = NOT key_n` (42_key_tracker.md R160, 30_encoding.md R81). -/
def pressedOf (keyN : BitVec 6) : BitVec 6 := ~~~keyN

/-- NOTE[i], the note of key `i` (42_key_tracker.md R161, 00_scope.md R6). -/
def noteOfKey (i : Nat) : Byte := ([60, 62, 64, 65, 67, 69] : List Byte).getD i 0

/-- The value for "no key" (00_scope.md R11). -/
def noKey : Byte := 0

/-- The scan of `sample` from bit `i` over `n` bits, lowest index first (42_key_tracker.md R161). -/
def sampleFrom (p : BitVec 6) (i : Nat) : Nat → Byte
  | 0 => noKey
  | n + 1 => if p.getLsbD i then noteOfKey i else sampleFrom p (i + 1) n

/-- `sample(pressed)`: the note of the lowest pressed key, 0 for none (42_key_tracker.md R161). -/
def sample (pressed : BitVec 6) : Byte := sampleFrom pressed 0 6

/-- The four bytes of a packet, first on the wire first: cable and CIN, status, data1, data2
(30_encoding.md R76). -/
structure Packet where
  b0 : Byte
  b1 : Byte
  b2 : Byte
  b3 : Byte
  deriving DecidableEq, Repr

/-- The bytes of a packet in wire order (20_memory.md R55). -/
def packetBytes (p : Packet) : List Byte := [p.b0, p.b1, p.b2, p.b3]

/-- Byte 0 of a packet: cable number in bits 7:4, CIN in bits 3:0 (30_encoding.md R76). -/
def cableAndCin (cable cin : BitVec 4) : Byte := cable ++ cin

/-- CABLE (00_scope.md R6). -/
def cable : BitVec 4 := 0

/-- CHANNEL (00_scope.md R6). -/
def channel : BitVec 4 := 0

/-- VEL_ON (00_scope.md R6). -/
def velOn : Byte := 0x7F

/-- VEL_OFF (00_scope.md R6). -/
def velOff : Byte := 0x00

/-- The Code Index Number of a Note-Off, also its message nibble (30_encoding.md R76). -/
def cinNoteOff : BitVec 4 := 0x8

/-- The Code Index Number of a Note-On, also its message nibble (30_encoding.md R76). -/
def cinNoteOn : BitVec 4 := 0x9

/-- `NOTE_OFF(k) = [0x08, 0x80, k, 0x00]` (43_packet_builder.md R181). -/
def noteOffPacket (k : Byte) : Packet :=
  ⟨cableAndCin cable cinNoteOff, cinNoteOff ++ channel, k, velOff⟩

/-- `NOTE_ON(k) = [0x09, 0x90, k, 0x7F]` (43_packet_builder.md R182). -/
def noteOnPacket (k : Byte) : Packet :=
  ⟨cableAndCin cable cinNoteOn, cinNoteOn ++ channel, k, velOn⟩

/-- `build(previousKey, currentKey)` (43_packet_builder.md R180). -/
def build (prev cur : Byte) : List Packet :=
  (if prev = noKey then [] else [noteOffPacket prev])
    ++ (if cur = noKey then [] else [noteOnPacket cur])

/-- PKT_LEN (00_scope.md R6). -/
def packetLen : Nat := 4

/-- The byte count of a framing, `n = 4 * length(build(prev, cur))` (43_packet_builder.md R184). -/
def frameLen (prev cur : Byte) : Nat := packetLen * (build prev cur).length

/-- CTRL_READ_LEN (00_scope.md R6). -/
def ctrlReadLen : Nat := 7

/-- `rd_len = min(7, maxLen)` with `maxLen = zext(evt_len)` (41_protocol_handler.md R135,
30_encoding.md R82). -/
def readLen (evtLen : BitVec 4) : BitVec 4 := BitVec.ofNat 4 (min ctrlReadLen evtLen.toNat)

/-- CTRL_WRITE_RET (00_scope.md R6, 41_protocol_handler.md R136). -/
def ctrlWriteRet : Byte := 1

/-- `resp_code` 00 (30_encoding.md R80). -/
def dataFollows : BitVec 2 := 0b00

/-- `resp_code` 01 (30_encoding.md R80). -/
def descriptorCode : BitVec 2 := 0b01

/-- `resp_code` 10 (30_encoding.md R80). -/
def engineCode : BitVec 2 := 0b10

/-- Bytes gathered on a 64-bit port, byte j at bits 8j+7:8j and 0 above the last (20_memory.md R55,
R56, 41_protocol_handler.md R141). -/
def gather : List Byte → Payload
  | [] => 0
  | b :: bs => (gather bs <<< 8) ||| b.setWidth 64

/-- The event on the engine event channel (10_state.md R32). -/
def eventOf (p : Pins) : EngineEvent := ⟨p.evtKind, p.evtLen, p.evtData⟩

/-- A data-stage or interrupt-OUT event is inside the port protocol when `evt_len` is at most 8
(30_encoding.md R79). -/
def lenInProtocol (len : BitVec 4) : Bool := decide (len.toNat ≤ maxEventLen)

end Sys2Proof.Machine
end

