-- ==== Sys2Proof/Config.lean ====
section
/-!
DEFINITION. What the build fixes (00_scope.md R7) and the free values of the model: constants without
a body, so that nothing can be proved of a value the spec leaves open (93_implementation_defined.md).
-/

namespace Sys2Proof.Config

/-- P_VID, the device descriptor's `idVendor` (00_scope.md R7, decision D10). -/
opaque pVid : BitVec 16

/-- P_PID, the device descriptor's `idProduct` (00_scope.md R7, decision D10). -/
opaque pPid : BitVec 16

/-- P_BCDDEVICE, the device descriptor's `bcdDevice` (00_scope.md R7, decision D10). -/
opaque pBcdDevice : BitVec 16

/-- Which of the two legal values P_CFG_ATTRIBUTES has (00_scope.md R7, decision D11). -/
opaque selfPowered : Bool

/-- P_CFG_ATTRIBUTES: 0xC0 when self-powered, 0x80 when bus-powered (00_scope.md R7). -/
def cfgAttributes : Byte := if selfPowered then 0xC0 else 0x80

/-- P_MAXPOWER, the configuration descriptor's `bMaxPower`: any byte (00_scope.md R7). -/
opaque maxPower : Byte

/-- WDT_TIMEOUT less one, so that the interval is positive (00_scope.md R7). -/
opaque wdtTimeoutPred : Nat

/-- WDT_TIMEOUT: positive. No rule reads it, since the block has no time (70_reset_and_hazards.md
R260); a watchdog reset is an asserted `rst` at any step (60_exceptions.md R224). -/
def wdtTimeout : Nat := wdtTimeoutPred + 1

/-! The input ports of 10_state.md R30 as the outside drives them: one value for each count of the
clock (log 3). -/

/-- `rst` (R38): reset may come at every step boundary (60_exceptions.md R224). -/
opaque envRst : Nat → Bool

/-- `key_n` (R31): any 6-bit value (93_implementation_defined.md I17). -/
opaque envKeyN : Nat → BitVec 6

/-- `evt_kind` (R32): a free input of the tick (I13). -/
opaque envEvtKind : Nat → BitVec 3

/-- `evt_len` (R32): a free input of the tick (I13). -/
opaque envEvtLen : Nat → BitVec 4

/-- `evt_data` (R32): a free input of the tick (I13). -/
opaque envEvtData : Nat → Payload

/-- `in_ready` (R34): a free input of the tick (I14). -/
opaque envInReady : Nat → Bool

/-- `rom_addr` (R36): the bus engine reads the ROM at any phase. -/
opaque envRomAddr : Nat → BitVec 7

/-! The output ports in a step that does not drive them: 10_state.md R33 and R34 give them no
meaning, and 93_implementation_defined.md I5 and I19 treat them as "any value" (log 4). -/

/-- `resp_code` in a step that answers no SETUP (R33). -/
opaque freeRespCode : Nat → BitVec 2

/-- `resp_base` where `resp_code` is not DESCRIPTOR (I19). -/
opaque freeRespBase : Nat → BitVec 7

/-- `resp_len` where `resp_code` is not DESCRIPTOR (I19). -/
opaque freeRespLen : Nat → BitVec 7

/-- `rd_len` in a step that answers no CTRL_READ (R33). -/
opaque freeRdLen : Nat → BitVec 4

/-- `rd_data` in a step that answers no CTRL_READ (R33). -/
opaque freeRdData : Nat → Payload

/-- `wr_ret` in a step that answers no CTRL_WRITE (R33). -/
opaque freeWrRet : Nat → Byte

/-- `in_len` in a step without a submission (R34). -/
opaque freeInLen : Nat → BitVec 4

/-- `in_data` in a step without a submission (R34). -/
opaque freeInData : Nat → Payload

/-- `led_n`, unconstrained at all times (10_state.md R37, 93_implementation_defined.md I5). -/
opaque freeLedN : Nat → BitVec 6

end Sys2Proof.Config
end

