-- ==== Sys2Proof/Machine/Rom.lean ====
section
/-!
DEFINITION. The contents of the descriptor ROM (40_descriptor_rom.md R100 to R116), one descriptor a
definition, byte by byte in the order of the rule's table.
-/

namespace Sys2Proof.Machine

/-- The low byte of a 16-bit field, at the lower ROM address (20_memory.md R54). -/
def fieldLo (v : BitVec 16) : Byte := v.extractLsb' 0 8

/-- The high byte of a 16-bit field, at the higher ROM address (20_memory.md R54). -/
def fieldHi (v : BitVec 16) : Byte := v.extractLsb' 8 8

/-- The Device Descriptor, ROM 0x00 to 0x11 (40_descriptor_rom.md R100). -/
def deviceDescriptor : List Byte :=
  [0x12, 0x01, fieldLo 0x0110, fieldHi 0x0110, 0x00, 0x00, 0x00, 0x08,
   fieldLo Config.pVid, fieldHi Config.pVid, fieldLo Config.pPid, fieldHi Config.pPid,
   fieldLo Config.pBcdDevice, fieldHi Config.pBcdDevice, 0x01, 0x02, 0x00, 0x01]

/-- 1. Configuration, ROM 0x12 (40_descriptor_rom.md R103). -/
def configurationHeader : List Byte :=
  [0x09, 0x02, fieldLo 101, fieldHi 101, 0x02, 0x01, 0x00, Config.cfgAttributes, Config.maxPower]

/-- 2. Standard AudioControl interface, ROM 0x1B (40_descriptor_rom.md R104). -/
def audioControlInterface : List Byte := [0x09, 0x04, 0x00, 0x00, 0x00, 0x01, 0x01, 0x00, 0x00]

/-- 3. Class-specific AudioControl header, ROM 0x24 (40_descriptor_rom.md R105). -/
def audioControlHeader : List Byte :=
  [0x09, 0x24, 0x01, fieldLo 0x0100, fieldHi 0x0100, fieldLo 9, fieldHi 9, 0x01, 0x01]

/-- 4. Standard MIDIStreaming interface, ROM 0x2D (40_descriptor_rom.md R106). -/
def midiStreamingInterface : List Byte := [0x09, 0x04, 0x01, 0x00, 0x02, 0x01, 0x03, 0x00, 0x00]

/-- 5. Class-specific MIDIStreaming header, ROM 0x36 (40_descriptor_rom.md R107). -/
def midiStreamingHeader : List Byte :=
  [0x07, 0x24, 0x01, fieldLo 0x0100, fieldHi 0x0100, fieldLo 65, fieldHi 65]

/-- 6. MIDI IN jack, embedded, ID 1, ROM 0x3D (40_descriptor_rom.md R108). -/
def jackInEmbedded : List Byte := [0x06, 0x24, 0x02, 0x01, 0x01, 0x00]

/-- 7. MIDI IN jack, external, ID 2, ROM 0x43 (40_descriptor_rom.md R109). -/
def jackInExternal : List Byte := [0x06, 0x24, 0x02, 0x02, 0x02, 0x00]

/-- 8. MIDI OUT jack, embedded, ID 3, ROM 0x49 (40_descriptor_rom.md R110). -/
def jackOutEmbedded : List Byte := [0x09, 0x24, 0x03, 0x01, 0x03, 0x01, 0x02, 0x01, 0x00]

/-- 9. MIDI OUT jack, external, ID 4, ROM 0x52 (40_descriptor_rom.md R111). -/
def jackOutExternal : List Byte := [0x09, 0x24, 0x03, 0x02, 0x04, 0x01, 0x01, 0x01, 0x00]

/-- 10. Standard endpoint, OUT, ROM 0x5B (40_descriptor_rom.md R112). -/
def endpointOut : List Byte :=
  [0x09, 0x05, 0x01, 0x03, fieldLo 8, fieldHi 8, 0x0A, 0x00, 0x00]

/-- 11. Class-specific MS endpoint for OUT, ROM 0x64 (40_descriptor_rom.md R113). -/
def endpointOutClass : List Byte := [0x05, 0x25, 0x01, 0x01, 0x01]

/-- 12. Standard endpoint, IN, ROM 0x69 (40_descriptor_rom.md R114). -/
def endpointIn : List Byte :=
  [0x09, 0x05, 0x81, 0x03, fieldLo 8, fieldHi 8, 0x0A, 0x00, 0x00]

/-- 13. Class-specific MS endpoint for IN, ROM 0x72 (40_descriptor_rom.md R115). -/
def endpointInClass : List Byte := [0x05, 0x25, 0x01, 0x01, 0x03]

/-- The thirteen descriptors of the configuration blob, in order (40_descriptor_rom.md R102). -/
def configurationParts : List (List Byte) :=
  [configurationHeader, audioControlInterface, audioControlHeader, midiStreamingInterface,
   midiStreamingHeader, jackInEmbedded, jackInExternal, jackOutEmbedded, jackOutExternal,
   endpointOut, endpointOutClass, endpointIn, endpointInClass]

/-- The Configuration Descriptor blob, ROM 0x12 to 0x76 (40_descriptor_rom.md R102). -/
def configurationDescriptor : List Byte := configurationParts.flatten

/-- Where the Device Descriptor lies and how long it is (20_memory.md R52, 40_descriptor_rom.md R120). -/
def deviceBase : Nat := 0x00

/-- DEV_DESC_LEN (00_scope.md R6). -/
def deviceLen : Nat := 18

/-- Where the Configuration Descriptor lies (20_memory.md R52, 40_descriptor_rom.md R121). -/
def configurationBase : Nat := 0x12

/-- CFG_DESC_LEN (00_scope.md R6). -/
def configurationLen : Nat := 101

/-- How many addresses the 7-bit `rom_addr` has (20_memory.md R50). -/
def romSize : Nat := 128

/-- `RomByte(a)`: what the build puts at ROM address `a`, with the 0x00 fill of 0x77 to 0x7F
(20_memory.md R51). This is what an unlisted address of `State.rom` reads as (log 7). -/
def romImage (a : Nat) : Byte :=
  if a < configurationBase then deviceDescriptor.getD a 0
  else if a < configurationBase + configurationLen then
    configurationDescriptor.getD (a - configurationBase) 0
  else 0

end Sys2Proof.Machine
end

