-- ==== Sys2Proof/Machine/Ops.lean ====
section
/-!
DEFINITION. The named operations of the block over its memories, registers and ports, reset as the one
transfer of control (60_exceptions.md R225), and the driving of the ports around a step.
-/

namespace Sys2Proof.Machine

/-- What a meaning answers. -/
abbrev Result := Host.Outcome State Fault Refusal

/-- Goes on with a next state; a fault or a refusal stands. -/
def andThen (r : Result) (f : State → Result) : Result :=
  match r with
  | .next s => f s
  | .fault e => .fault e
  | .refused e => .refused e

/-! ## Byte memories -/

/-- The byte at address `a`, where an unlisted address reads as `fill`. -/
def Memory.read (fill : Nat → Byte) : Memory → Nat → Byte
  | [], a => fill a
  | (k, b) :: m, a => if a = k then b else Memory.read fill m a

/-- Lists byte `b` at address `a`, in its place. -/
def Memory.put : Memory → Nat → Byte → Memory
  | [], a, b => [(a, b)]
  | (k, c) :: m, a, b =>
      if a < k then (a, b) :: (k, c) :: m
      else if a = k then (a, b) :: m
      else (k, c) :: Memory.put m a b

/-- Lists address `a` no more. -/
def Memory.unlist : Memory → Nat → Memory
  | [], _ => []
  | (k, c) :: m, a => if a = k then m else (k, c) :: Memory.unlist m a

/-- One byte written, in canonical form: writing what an unlisted address reads as unlists it. -/
def Memory.write (fill : Nat → Byte) (m : Memory) (a : Nat) (b : Byte) : Memory :=
  if b = fill a then m.unlist a else m.put a b

/-- `MemWrite(a, n, v)`: byte j of `v` at address `a + j` (20_memory.md R55). -/
def Memory.writeBytes (fill : Nat → Byte) : Memory → Nat → List Byte → Memory
  | m, _, [] => m
  | m, a, b :: bs => Memory.writeBytes fill (m.write fill a b) (a + 1) bs

/-- The `n` bytes from address `a` upward. -/
def Memory.readBytes (fill : Nat → Byte) (m : Memory) (a n : Nat) : List Byte :=
  (List.range n).map fun j => m.read fill (a + j)

/-- Addresses from `lo` up to `size`, strictly rising, none listed with what it reads as unlisted. -/
def Memory.wfFrom (fill : Nat → Byte) (size : Nat) : Nat → Memory → Bool
  | _, [] => true
  | lo, (k, b) :: m =>
      decide (lo ≤ k) && decide (k < size) && b != fill k && Memory.wfFrom fill size (k + 1) m

/-- The canonical form of a memory of `size` bytes. -/
def Memory.wf (fill : Nat → Byte) (size : Nat) (m : Memory) : Bool := Memory.wfFrom fill size 0 m

/-- What a buffer byte that nothing has written reads as: 0x00 (log 6: the spec leaves it unspecified
and says it is never read, 10_state.md R39). -/
def bufferFill (_ : Nat) : Byte := 0

/-- The size of `inbuf` (20_memory.md R55). -/
def inbufSize : Nat := 8

/-- The size of `rdbuf` (20_memory.md R56). -/
def rdbufSize : Nat := 7

/-- The byte at ROM address `a`, taken modulo 128 (20_memory.md R51). -/
def State.romByte (s : State) (a : Nat) : Byte := s.rom.read romImage (a % romSize)

/-- `MemRead(addr, n)` of the descriptor ROM (20_memory.md R51). -/
def State.memRead (s : State) (addr n : Nat) : List Byte :=
  (List.range n).map fun i => s.romByte (addr + i)

/-- `rom_data = MemRead(rom_addr, 1)`, combinational (10_state.md R36). -/
def State.romData (s : State) : Byte := s.romByte s.pins.romAddr.toNat

/-- `zlp_req` drives `pendingEmptyFrameRequired` at all times (10_state.md R35). -/
def State.zlpReq (s : State) : Bool := s.pendingEmptyFrameRequired

/-- The byte `inbuf[j]`. -/
def State.inbufByte (s : State) (j : Nat) : Byte := s.inbuf.read bufferFill j

/-- The byte `rdbuf[j]`. -/
def State.rdbufByte (s : State) (j : Nat) : Byte := s.rdbuf.read bufferFill j

/-! ## Answers to engine events (10_state.md R33) -/

/-- An answer without a descriptor: `resp_base` and `resp_len` are left as the step began, with the
free values of a port that is not driven (93_implementation_defined.md I19, log 4). -/
def State.respond (s : State) (code : BitVec 2) : State := { s with respCode := code }

/-- The answer DESCRIPTOR with its ROM bytes (40_descriptor_rom.md R120, R121). -/
def State.respondDescriptor (s : State) (base len : Nat) : State :=
  { s with
    respCode := descriptorCode
    respBase := BitVec.ofNat 7 base
    respLen := BitVec.ofNat 7 len }

/-- A class host-to-device SETUP sets the empty-frame flag (41_protocol_handler.md R131). -/
def State.expectEmptyFrame (s : State) : State :=
  { s with pendingEmptyFrameRequired := emptyFrameAfterClassOut }

/-- CTRL_READ's fill of the control-read buffer with zeros (41_protocol_handler.md R135). -/
def State.fillRdbuf (s : State) : State :=
  { s with rdbuf := s.rdbuf.writeBytes bufferFill 0 (List.replicate ctrlReadLen 0) }

/-- CTRL_READ's answer from the buffer (41_protocol_handler.md R135, 20_memory.md R56). -/
def State.answerRead (s : State) (maxLen : BitVec 4) : State :=
  { s with
    rdLen := readLen maxLen
    rdData := gather (s.rdbuf.readBytes bufferFill 0 ctrlReadLen) }

/-- CTRL_WRITE's answer (41_protocol_handler.md R136). -/
def State.answerWrite (s : State) : State := { s with wrRet := ctrlWriteRet }

/-- `RefusedEngineEvent`, with the event (60_exceptions.md R222). -/
def refuseEvent (e : EngineEvent) : Result := .refused (.refusedEngineEvent e)

/-! ## The key tracker (42_key_tracker.md) -/

/-- `currentKey <- note` (42_key_tracker.md R162). -/
def State.setCurrentKey (s : State) (note : Byte) : State := { s with currentKey := note }

/-- EDGE_DETECT (42_key_tracker.md R163). -/
def State.detectEdge (s : State) : State :=
  { s with changed := changedAfterSample s.changed s.currentKey s.lastReportedKey }

/-! ## The framer (43_packet_builder.md, 44_main_loop.md R204) -/

/-- Where packet `p` of a submission begins in `inbuf` (20_memory.md R55, R57). -/
def packetOffset (p : Nat) : Nat := packetLen * p

/-- `MemWrite(4*p, 4, packet)` on `inbuf` (43_packet_builder.md R185). -/
def State.stagePacket (s : State) (p : Nat) (pkt : Packet) : State :=
  { s with inbuf := s.inbuf.writeBytes bufferFill (packetOffset p) (packetBytes pkt) }

/-- The packets of a framing staged one after another from packet `p` on (43_packet_builder.md R185). -/
def State.stagePackets (s : State) : Nat → List Packet → State
  | _, [] => s
  | p, pkt :: rest => State.stagePackets (s.stagePacket p pkt) (p + 1) rest

/-- Which packet a NOTE_ON is: packet 2 when the framing has a NOTE_OFF, which is always packet 1,
else packet 1 (43_packet_builder.md R180, R182). Counted from 0. -/
def noteOnPosition (s : State) : Nat := if s.lastReportedKey = noKey then 0 else 1

/-- IN_READY: the `in_ready` level, of which the block keeps no copy (41_protocol_handler.md R142). -/
def State.inReadySample (s : State) : Bool := s.pins.inReady

/-- IN_SUBMIT, `Submit(inbuf, n)`: the strobe, the count and the first `n` bytes of `inbuf`, the bytes
above them 0 (41_protocol_handler.md R141). Reached with `in_ready` 0 it is the model fault of
60_exceptions.md R221. -/
def submit (n : Nat) (s : State) : Result :=
  let len := BitVec.ofNat 4 n
  let data := gather (s.inbuf.readBytes bufferFill 0 n)
  if s.inReadySample then .next { s with inSubmit := true, inLen := len, inData := data }
  else .fault (.submitWhileBusy len data)

/-- The flag's assignment on a submission of `n` bytes (43_packet_builder.md R186). -/
def State.assignEmptyFrame (s : State) (n : Nat) : State :=
  { s with pendingEmptyFrameRequired := emptyFrameAfterSubmit n }

/-- FRAME (43_packet_builder.md R185): nothing when the build is empty (R183), else the packets into
the buffer, one submission and the flag. -/
def frame (s : State) : Result :=
  let seq := build s.lastReportedKey s.currentKey
  let n := frameLen s.lastReportedKey s.currentKey
  if n = 0 then .next s
  else andThen (submit n (s.stagePackets 0 seq)) fun t => .next (t.assignEmptyFrame n)

/-- COMPLETE: `lastReportedKey <- currentKey`, `changed <- 0` (44_main_loop.md R204). -/
def State.completeFrame (s : State) : State :=
  { s with lastReportedKey := s.currentKey, changed := changedAfterEmit }

/-! ## The sequencer (10_state.md R27) -/

/-- `phase <- P` (00_scope.md R10). -/
def State.setPhase (s : State) (p : Phase) : State := { s with phase := p }

/-- `emit wdt_kick(1)` (44_main_loop.md R200). -/
def State.kickWatchdog (s : State) : State := { s with wdtKick := true }

/-! ## The ports around a step -/

/-- The ports as a step begins: the strobes of the step before have ended (10_state.md R34, R37), and
every other output port that this step does not drive has a free value (R33, log 4). The offered row
has been taken (log 2). -/
def State.beginStep (s : State) : State :=
  { s with
    respCode := Config.freeRespCode s.clock
    respBase := Config.freeRespBase s.clock
    respLen := Config.freeRespLen s.clock
    rdLen := Config.freeRdLen s.clock
    rdData := Config.freeRdData s.clock
    wrRet := Config.freeWrRet s.clock
    inSubmit := false
    inLen := Config.freeInLen s.clock
    inData := Config.freeInData s.clock
    wdtKick := false
    ledN := Config.freeLedN s.clock
    slot := none }

/-- Free values on every input port (log 3). -/
def freePins (n : Nat) : Pins :=
  { rst := Config.envRst n
    keyN := Config.envKeyN n
    evtKind := Config.envEvtKind n
    evtLen := Config.envEvtLen n
    evtData := Config.envEvtData n
    inReady := Config.envInReady n
    romAddr := Config.envRomAddr n }

/-- The outside drives every input port again after a step: the values it arranged, or free ones
(log 3). -/
def State.drivePins (s : State) : State :=
  match s.script with
  | [] => { s with pins := freePins s.clock, clock := s.clock + 1 }
  | p :: rest => { s with pins := p, script := rest, clock := s.clock + 1 }

/-- `drivePins` on a next state; a fault or a refusal stands. -/
def thenDrivePins (r : Result) : Result := andThen r fun s => .next s.drivePins

/-! ## Reset, the only transfer of control (60_exceptions.md R225) -/

/-- The effect of an asserted `rst` (70_reset_and_hazards.md R240, 10_state.md R39): every register at
its reset value, nothing saved (R241), the ROM not changed, no strobe. There is no return from it. -/
def State.takeReset (s : State) : State :=
  { s.beginStep with
    lastReportedKey := State.reset.lastReportedKey
    currentKey := State.reset.currentKey
    changed := State.reset.changed
    pendingEmptyFrameRequired := State.reset.pendingEmptyFrameRequired
    phase := State.reset.phase
    inbuf := State.reset.inbuf
    rdbuf := State.reset.rdbuf }

end Sys2Proof.Machine
end

