-- ==== Sys2Proof/Machine/Dispatcher.lean ====
section
/-!
DEFINITION. The nine SETUP classes (40_descriptor_rom.md R120, R121; 41_protocol_handler.md R131 to
R134, R138 to R140) and the dispatch of a SETUP (R130). No class reads its operand fields, and only
CLASS_H2D writes a register.
-/

namespace Sys2Proof.Machine

/-- GET_DESCRIPTOR_DEVICE: the Device Descriptor and its exact length (40_descriptor_rom.md R120). -/
def execGetDescriptorDevice (s : State) : Result := .next (s.respondDescriptor deviceBase deviceLen)

/-- GET_DESCRIPTOR_CONFIG: the Configuration Descriptor for every other type, the permissive fallback
(40_descriptor_rom.md R121, R101). -/
def execGetDescriptorConfig (s : State) : Result :=
  .next (s.respondDescriptor configurationBase configurationLen)

/-- STD_OTHER: the bus engine services the request (41_protocol_handler.md R133). -/
def execStdOther (s : State) : Result := .next (s.respond engineCode)

/-- CLASS_H2D: the empty-frame flag is set, and data follows (41_protocol_handler.md R131). -/
def execClassH2d (s : State) : Result := .next (s.expectEmptyFrame.respond dataFollows)

/-- CLASS_D2H: data follows (41_protocol_handler.md R132). -/
def execClassD2h (s : State) : Result := .next (s.respond dataFollows)

/-- VENDOR_H2D: data follows (41_protocol_handler.md R134). -/
def execVendorH2d (s : State) : Result := .next (s.respond dataFollows)

/-- VENDOR_D2H: data follows (41_protocol_handler.md R138). -/
def execVendorD2h (s : State) : Result := .next (s.respond dataFollows)

/-- RESERVED_H2D: data follows, no stall (41_protocol_handler.md R139). -/
def execReservedH2d (s : State) : Result := .next (s.respond dataFollows)

/-- RESERVED_D2H: data follows, no stall (41_protocol_handler.md R140). -/
def execReservedD2h (s : State) : Result := .next (s.respond dataFollows)

/-- SETUP dispatch: the meaning of the first matching row of 30_encoding.md R75, and of that row only
(41_protocol_handler.md R130). -/
def dispatchSetup (sw : Word32) (s : State) : Result :=
  match classify sw with
  | .getDescriptorDevice => execGetDescriptorDevice s
  | .getDescriptorConfig => execGetDescriptorConfig s
  | .stdOther => execStdOther s
  | .classH2d => execClassH2d s
  | .classD2h => execClassD2h s
  | .vendorH2d => execVendorH2d s
  | .vendorD2h => execVendorD2h s
  | .reservedH2d => execReservedH2d s
  | .reservedD2h => execReservedD2h s

end Sys2Proof.Machine
end

