-- ==== Sys2Proof/Machine/Events.lean ====
section
/-!
DEFINITION. The engine events of the POLL phase (30_encoding.md R78, 41_protocol_handler.md R130, R135
to R137, 60_exceptions.md R222).
-/

namespace Sys2Proof.Machine

/-- EVT_NONE: the bus engine presents no event, and the POLL phase ends (44_main_loop.md R201). -/
def execEvtNone (s : State) : Result := .next (s.setPhase .sample)

/-- EVT_SETUP: the dispatch of the request in `evt_data`; `evt_len` is ignored
(41_protocol_handler.md R130, 30_encoding.md R79). -/
def execEvtSetup (data : Payload) (s : State) : Result := dispatchSetup (swOf data) s

/-- EVT_CTRL_READ: min(7, maxLen) bytes of the zeroed control-read buffer (41_protocol_handler.md
R135); `evt_len` over 8 is refused (60_exceptions.md R222). -/
def execEvtCtrlRead (len : BitVec 4) (data : Payload) (s : State) : Result :=
  if lenInProtocol len then .next (s.fillRdbuf.answerRead len) else refuseEvent ⟨2, len, data⟩

/-- EVT_CTRL_WRITE: the bytes are discarded and the answer is 1 (41_protocol_handler.md R136);
`evt_len` over 8 is refused (60_exceptions.md R222). -/
def execEvtCtrlWrite (len : BitVec 4) (data : Payload) (s : State) : Result :=
  if lenInProtocol len then .next s.answerWrite else refuseEvent ⟨3, len, data⟩

/-- EVT_INT_OUT: the bytes are discarded; no state change and no answer (41_protocol_handler.md R137);
`evt_len` over 8 is refused (60_exceptions.md R222). -/
def execEvtIntOut (len : BitVec 4) (data : Payload) (s : State) : Result :=
  if lenInProtocol len then .next s else refuseEvent ⟨4, len, data⟩

/-- EVT_RESERVED_5: `RefusedEngineEvent`, the spec gives it no meaning (60_exceptions.md R222). -/
def execEvtReserved5 (len : BitVec 4) (data : Payload) (_ : State) : Result :=
  refuseEvent ⟨5, len, data⟩

/-- EVT_RESERVED_6_7: `RefusedEngineEvent`, the spec gives it no meaning (60_exceptions.md R222). -/
def execEvtReserved67 (low : BitVec 1) (len : BitVec 4) (data : Payload) (_ : State) : Result :=
  refuseEvent ⟨0b11#2 ++ low, len, data⟩

/-- One engine event, by its kind (44_main_loop.md R201, 30_encoding.md R78). -/
def runEvent (e : EngineEvent) (s : State) : Result :=
  match e.kind with
  | 0 => execEvtNone s
  | 1 => execEvtSetup e.data s
  | 2 => execEvtCtrlRead e.len e.data s
  | 3 => execEvtCtrlWrite e.len e.data s
  | 4 => execEvtIntOut e.len e.data s
  | 5 => execEvtReserved5 e.len e.data s
  | 6 => execEvtReserved67 0 e.len e.data s
  | 7 => execEvtReserved67 1 e.len e.data s

end Sys2Proof.Machine
end

