-- ==== Sys2Proof/Machine/KeyTracker.lean ====
section
/-!
DEFINITION. The rows of the key priority decode (42_key_tracker.md R161, R162). A row writes its note
to `currentKey` and no flag: EDGE_DETECT (R163) is the next thing PHASE_SAMPLE does (log 9).
-/

namespace Sys2Proof.Machine

/-- KEY_SAMPLE_60: key 0 is pressed (42_key_tracker.md R161, R162). -/
def execKeySample60 (s : State) : Result := .next (s.setCurrentKey (noteOfKey 0))

/-- KEY_SAMPLE_62: key 1 is the lowest pressed (42_key_tracker.md R161, R162). -/
def execKeySample62 (s : State) : Result := .next (s.setCurrentKey (noteOfKey 1))

/-- KEY_SAMPLE_64: key 2 is the lowest pressed (42_key_tracker.md R161, R162). -/
def execKeySample64 (s : State) : Result := .next (s.setCurrentKey (noteOfKey 2))

/-- KEY_SAMPLE_65: key 3 is the lowest pressed (42_key_tracker.md R161, R162). -/
def execKeySample65 (s : State) : Result := .next (s.setCurrentKey (noteOfKey 3))

/-- KEY_SAMPLE_67: key 4 is the lowest pressed (42_key_tracker.md R161, R162). -/
def execKeySample67 (s : State) : Result := .next (s.setCurrentKey (noteOfKey 4))

/-- KEY_SAMPLE_69: key 5 alone is pressed (42_key_tracker.md R161, R162). -/
def execKeySample69 (s : State) : Result := .next (s.setCurrentKey (noteOfKey 5))

/-- KEY_SAMPLE_NONE: no key is pressed (42_key_tracker.md R161, R162). -/
def execKeySampleNone (s : State) : Result := .next (s.setCurrentKey noKey)

end Sys2Proof.Machine
end

