-- ==== Sys2Proof/Machine/Packets.lean ====
section
/-!
DEFINITION. The two packet forms (43_packet_builder.md R181, R182), each formed in its place in the IN
staging buffer (R185, log 10).
-/

namespace Sys2Proof.Machine

/-- NOTE_OFF: the Note-Off packet of key `k`, always packet 1 (43_packet_builder.md R181, R182). -/
def execNoteOff (k : Byte) (s : State) : Result := .next (s.stagePacket 0 (noteOffPacket k))

/-- NOTE_ON: the Note-On packet of key `k`, after the Note-Off where the framing has one
(43_packet_builder.md R182). -/
def execNoteOn (k : Byte) (s : State) : Result :=
  .next (s.stagePacket (noteOnPosition s) (noteOnPacket k))

end Sys2Proof.Machine
end

