-- ==== Sys2Proof/Machine/Phases.lean ====
section
/-!
DEFINITION. The four phases of a tick (44_main_loop.md R200 to R204).
-/

namespace Sys2Proof.Machine

/-- PHASE_KICK: the watchdog kick, then `phase <- POLL` (44_main_loop.md R200). -/
def execPhaseKick (s : State) : Result := .next (s.kickWatchdog.setPhase .poll)

/-- PHASE_POLL: the next engine event. NONE ends the phase, `phase <- SAMPLE`; any other is run to
completion and the phase goes on with the event after it (44_main_loop.md R201, 10_state.md R32). One
event is one step, since its answer is on the ports before the next is presented (R33, log 1). -/
def execPhasePoll (s : State) : Result := runEvent (eventOf s.pins) s

/-- PHASE_SAMPLE: `currentKey <- sample(NOT key_n)`, EDGE_DETECT, `phase <- EMIT`
(44_main_loop.md R202). -/
def execPhaseSample (s : State) : Result :=
  .next (((s.setCurrentKey (sample (pressedOf s.pins.keyN))).detectEdge).setPhase .emit)

/-- PHASE_EMIT: when the endpoint is ready and a change is pending, FRAME and COMPLETE; either way
`phase <- KICK` (44_main_loop.md R203, R204). -/
def execPhaseEmit (s : State) : Result :=
  if s.inReadySample && s.changed then
    andThen (frame s) fun t => .next (t.completeFrame.setPhase .kick)
  else .next (s.setPhase .kick)

end Sys2Proof.Machine
end

