-- ==== Sys2Proof/Machine/Dispatch.lean ====
section
/-!
DEFINITION. One arm per row of opcode_table.json, each a direct call of the row's meaning.
-/

namespace Sys2Proof.Machine

def exec (i : Instr) (s : State) : Host.Outcome State Fault Refusal :=
  match i with
  | .getDescriptorDevice _ _ => Sys2Proof.Machine.execGetDescriptorDevice s
  | .getDescriptorConfig _ _ _ => Sys2Proof.Machine.execGetDescriptorConfig s
  | .stdOther _ _ _ _ _ => Sys2Proof.Machine.execStdOther s
  | .classH2d _ _ _ _ => Sys2Proof.Machine.execClassH2d s
  | .classD2h _ _ _ _ => Sys2Proof.Machine.execClassD2h s
  | .vendorH2d _ _ _ _ => Sys2Proof.Machine.execVendorH2d s
  | .vendorD2h _ _ _ _ => Sys2Proof.Machine.execVendorD2h s
  | .reservedH2d _ _ _ _ => Sys2Proof.Machine.execReservedH2d s
  | .reservedD2h _ _ _ _ => Sys2Proof.Machine.execReservedD2h s
  | .evtNone => Sys2Proof.Machine.execEvtNone s
  | .evtSetup _ data => Sys2Proof.Machine.execEvtSetup data s
  | .evtCtrlRead len data => Sys2Proof.Machine.execEvtCtrlRead len data s
  | .evtCtrlWrite len data => Sys2Proof.Machine.execEvtCtrlWrite len data s
  | .evtIntOut len data => Sys2Proof.Machine.execEvtIntOut len data s
  | .evtReserved5 len data => Sys2Proof.Machine.execEvtReserved5 len data s
  | .evtReserved67 low len data => Sys2Proof.Machine.execEvtReserved67 low len data s
  | .noteOff k => Sys2Proof.Machine.execNoteOff k s
  | .noteOn k => Sys2Proof.Machine.execNoteOn k s
  | .keySample60 _ => Sys2Proof.Machine.execKeySample60 s
  | .keySample62 _ => Sys2Proof.Machine.execKeySample62 s
  | .keySample64 _ => Sys2Proof.Machine.execKeySample64 s
  | .keySample65 _ => Sys2Proof.Machine.execKeySample65 s
  | .keySample67 _ => Sys2Proof.Machine.execKeySample67 s
  | .keySample69 => Sys2Proof.Machine.execKeySample69 s
  | .keySampleNone => Sys2Proof.Machine.execKeySampleNone s
  | .phaseKick => Sys2Proof.Machine.execPhaseKick s
  | .phasePoll => Sys2Proof.Machine.execPhasePoll s
  | .phaseSample => Sys2Proof.Machine.execPhaseSample s
  | .phaseEmit => Sys2Proof.Machine.execPhaseEmit s

end Sys2Proof.Machine
end

