-- ==== Sys2Proof/Machine/Fetch.lean ====
section
/-!
DEFINITION. What the next step decodes: the phase register (10_state.md R27), or the row offered in
the slot (log 2).
-/

namespace Sys2Proof.Machine

/-- The code of a phase: KICK 0, POLL 1, SAMPLE 2, EMIT 3 (10_state.md R27). -/
def phaseCode : Phase → BitVec 2
  | .kick => 0
  | .poll => 1
  | .sample => 2
  | .emit => 3

/-- The phase of a code (10_state.md R27). -/
def phaseOfCode (c : BitVec 2) : Phase :=
  match c with
  | 0 => .kick
  | 1 => .poll
  | 2 => .sample
  | 3 => .emit

/-- The phase register as the bytes of a PHASE word. -/
def phaseSlot (p : Phase) : Slot := ⟨.phase, [(phaseCode p).setWidth 8]⟩

/-- What the next step decodes: the offered row where there is one, else the phase register. -/
def fetchSlot (s : State) : Slot := s.slot.getD (phaseSlot s.phase)

/-- The row the next step runs, or why its bytes are none. -/
def fetch (s : State) : Except DecodeError Instr :=
  decodeBytes (fetchSlot s).format (fetchSlot s).bytes

/-- Places a numbered word of opcode_table.json where the next step decodes it, with `rst` released:
a phase code in the phase register, a row of another format in the slot (log 2). -/
def placeWord (s : State) (nbits w : Nat) : State :=
  match tableFormat nbits w with
  | .phase =>
      { s with
        phase := phaseOfCode (BitVec.ofNat 2 w)
        slot := none
        pins := { s.pins with rst := false } }
  | f => { s with slot := some ⟨f, tableBytes nbits w⟩, pins := { s.pins with rst := false } }

end Sys2Proof.Machine
end

