-- ==== Sys2Proof/Machine/Step.lean ====
section
/-!
DEFINITION. One step: reset if `rst` is asserted (60_exceptions.md R226), else one row, then the
outside drives the input ports again.
-/

namespace Sys2Proof.Machine

/-- One step of the block. A phase of the tick, one engine event at a time in POLL (44_main_loop.md
R200 to R203, log 1), or the offered row (log 2). -/
def step (s : State) : Host.Outcome State Fault Refusal :=
  if s.pins.rst then .next s.takeReset.drivePins
  else
    match fetch s with
    | .ok i => thenDrivePins (exec i s.beginStep)
    | .error _ => .refused (.undecodable (fetchSlot s))

/-- The numbered word of opcode_table.json placed where the next step decodes it (log 2, log 12). -/
def State.withFetchWord (s : State) (nbits w : Nat) : State := placeWord s nbits w

end Sys2Proof.Machine
end

