-- ==== Sys2Proof/Safety.lean ====
section
/-!
DEFINITION. The terms claims are stated in: the invariants of 10_state.md R29, the tick of
44_main_loop.md R207 as one function and as a run of steps, what the host hears
(43_packet_builder.md R188), and the fairness premise of 44_main_loop.md R210.
-/

namespace Sys2Proof.Machine

/-! ## Invariants -/

/-- Both note registers hold a note-or-none (10_state.md R29, R21, R22). -/
def State.legalKeys (s : State) : Bool :=
  isNoteOrNone s.lastReportedKey && isNoteOrNone s.currentKey

/-- Every byte memory is in its canonical form and inside its address range. -/
def State.memoriesWf (s : State) : Bool :=
  s.rom.wf romImage romSize && s.inbuf.wf bufferFill inbufSize && s.rdbuf.wf bufferFill rdbufSize

/-- The invariant every step keeps. -/
def State.inv (s : State) : Prop := s.legalKeys = true ∧ s.memoriesWf = true

/-- The phase after a phase (10_state.md R27). -/
def nextPhase : Phase → Phase
  | .kick => .poll
  | .poll => .sample
  | .sample => .emit
  | .emit => .kick

/-! ## The tick (44_main_loop.md R207) -/

/-- The four registers of 10_state.md R21 to R24. -/
structure KeyRegs where
  lastReportedKey : Byte
  currentKey : Byte
  changed : Bool
  pendingEmptyFrameRequired : Bool
  deriving DecidableEq, Repr

/-- The four registers of a state. -/
def State.regs (s : State) : KeyRegs :=
  ⟨s.lastReportedKey, s.currentKey, s.changed, s.pendingEmptyFrameRequired⟩

/-- The inputs of a tick: the events of its POLL, `key_n` as read in SAMPLE and `in_ready` as read in
EMIT (44_main_loop.md R207). -/
structure TickInputs where
  events : List EngineEvent
  keyN : BitVec 6
  inReady : Bool
  deriving DecidableEq, Repr

/-- An event POLL takes and answers: SETUP with any `evt_len`, or CTRL_READ, CTRL_WRITE or INT_OUT
with `evt_len` at most 8 (30_encoding.md R78, R79). -/
def acceptedEvent (e : EngineEvent) : Bool :=
  e.kind == 1 || ((e.kind == 2 || e.kind == 3 || e.kind == 4) && lenInProtocol e.len)

/-- What an event does to the registers: a class host-to-device SETUP sets the empty-frame flag, and
nothing else writes a register (44_main_loop.md R201). -/
def eventRegs (r : KeyRegs) (e : EngineEvent) : KeyRegs :=
  if e.kind = 1 ∧ classify (swOf e.data) = .classH2d then { r with pendingEmptyFrameRequired := true }
  else r

/-- What SAMPLE does to the registers (44_main_loop.md R207). -/
def sampleRegs (keyN : BitVec 6) (r : KeyRegs) : KeyRegs :=
  let cur := sample (~~~keyN)
  { r with currentKey := cur, changed := if cur ≠ r.lastReportedKey then true else r.changed }

/-- The registers as EMIT finds them (44_main_loop.md R207). -/
def regsBeforeEmit (t : TickInputs) (r : KeyRegs) : KeyRegs :=
  sampleRegs t.keyN (t.events.foldl eventRegs r)

/-- What EMIT does to the registers (44_main_loop.md R207). -/
def emitRegs (inReady : Bool) (r : KeyRegs) : KeyRegs :=
  if inReady = true ∧ r.changed = true then
    let n := 4 * (build r.lastReportedKey r.currentKey).length
    { lastReportedKey := r.currentKey
      currentKey := r.currentKey
      changed := false
      pendingEmptyFrameRequired := if n > 0 then n == 8 else r.pendingEmptyFrameRequired }
  else r

/-- The registers after a tick (44_main_loop.md R207). -/
def tickRegs (t : TickInputs) (r : KeyRegs) : KeyRegs := emitRegs t.inReady (regsBeforeEmit t r)

/-- The bytes a tick submits; none when it submits nothing (44_main_loop.md R207). -/
def tickSubmission (t : TickInputs) (r : KeyRegs) : List Byte :=
  let r' := regsBeforeEmit t r
  if t.inReady = true ∧ r'.changed = true then
    (build r'.lastReportedKey r'.currentKey).flatMap packetBytes
  else []

/-- The input ports of a POLL step that presents `e`. -/
def pollPins (e : EngineEvent) : Pins :=
  { Pins.idle with evtKind := e.kind, evtLen := e.len, evtData := e.data }

/-- The input ports of a SAMPLE step. -/
def samplePins (keyN : BitVec 6) : Pins := { Pins.idle with keyN := keyN }

/-- The input ports of an EMIT step. -/
def emitPins (inReady : Bool) : Pins := { Pins.idle with inReady := inReady }

/-- The state with the inputs of a tick arranged: KICK, one POLL step an event, a POLL step that
presents NONE, SAMPLE and EMIT, with `rst` released in each. -/
def State.loadTick (s : State) (t : TickInputs) : State :=
  { s with
    pins := Pins.idle
    script := t.events.map pollPins ++ [pollPins noneEvent, samplePins t.keyN, emitPins t.inReady]
    slot := none }

/-- How many steps a tick takes. -/
def tickSteps (t : TickInputs) : Nat := t.events.length + 4

/-- Some number of steps of the machine, to the first fault or refusal. -/
def runSteps : Nat → State → Result
  | 0, s => .next s
  | n + 1, s => andThen (step s) (runSteps n)

/-- A tick as steps of the machine. -/
def runTick (t : TickInputs) (s : State) : Result := runSteps (tickSteps t) (s.loadTick t)

/-- The first `n` ticks of a sequence of inputs. -/
def runTicks (inputs : Nat → TickInputs) (s : State) : Nat → Result
  | 0 => .next s
  | n + 1 => andThen (runTicks inputs s n) (runTick (inputs n))

/-- READY_INFINITELY_OFTEN: `in_ready` is 1 at some EMIT after every tick (44_main_loop.md R210). -/
def readyInfinitelyOften (inputs : Nat → TickInputs) : Prop :=
  ∀ n, ∃ m, n ≤ m ∧ (inputs m).inReady = true

/-- Any number of SAMPLE phases, one after another (42_key_tracker.md R166). -/
def samplePhases (s : State) : Nat → Result
  | 0 => .next s
  | n + 1 => andThen (samplePhases s n) (exec .phaseSample)

/-- The rows of 30_encoding.md R75 in the table's order. -/
def setupOrder : List SetupClass :=
  [.getDescriptorDevice, .getDescriptorConfig, .stdOther, .classH2d, .classD2h, .vendorH2d,
   .vendorD2h, .reservedH2d, .reservedD2h]

/-! ## What the host hears (43_packet_builder.md R188) -/

/-- The bytes submitted in the step that led to this state: the first `in_len` bytes of `in_data`
while `in_submit` is 1, else none (10_state.md R34). -/
def State.submittedBytes (s : State) : List Byte :=
  if s.inSubmit then (List.range s.inLen.toNat).map (payloadByte s.inData) else []

/-- The notes sounding at the host after it has taken whole packets: a Note-Off ends its note, a
Note-On starts it (30_encoding.md R77). -/
def soundAfter (on : List Byte) : List Byte → List Byte
  | b0 :: _ :: k :: _ :: rest =>
      if b0 = 0x08 then soundAfter (on.filter fun j => j ≠ k) rest
      else if b0 = 0x09 then soundAfter (k :: on.filter fun j => j ≠ k) rest
      else soundAfter on rest
  | _ => on

/-- The notes sounding when the reported key is `k`: that one, or none (43_packet_builder.md R188). -/
def soundOf (k : Byte) : List Byte := if k = noKey then [] else [k]

/-! ## What the bus engine sends after a DESCRIPTOR answer -/

/-- The bytes the bus engine reads from the ROM and sends for a request with this `wLength`,
`min(resp_len, wLength)` of them (40_descriptor_rom.md R123). -/
def State.descriptorReply (s : State) (wLength : Nat) : List Byte :=
  s.memRead s.respBase.toNat (min s.respLen.toNat wLength)

/-- The walk of a descriptor blob by its `bLength` bytes, for at most `fuel` descriptors: the lengths
met, until the blob ends (40_descriptor_rom.md R117). -/
def walkLengths (blob : List Byte) : Nat → List Nat
  | 0 => []
  | fuel + 1 =>
      match blob with
      | [] => []
      | b :: _ => b.toNat :: walkLengths (blob.drop b.toNat) fuel

/-- A 16-bit field at a ROM address, low byte first (20_memory.md R54). -/
def State.romField (s : State) (a : Nat) : Nat := (s.romByte a).toNat + 256 * (s.romByte (a + 1)).toNat

end Sys2Proof.Machine
end

