-- ==== Sys2Proof/Certificates/Slice0/Obligations.lean ====
section
/-!
DEFINITION. The statements for the provers. A statement whose basis is the model's own choice names
its log entry; every other one names the rule it formalises.
-/

open Sys2Proof Sys2Proof.Machine

/-! ## SETUP requests -/

/-- R131: the class and its word, the flag it sets whatever it was, and who may clear it afterwards. -/
def Obligations.ClassOutRequestSetsEmptyFrameFlag : Prop :=
  (∀ (r : BitVec 5) (b v d : Byte) (s : State), exec (.classH2d r b v d) s
      = .next { s with pendingEmptyFrameRequired := true, respCode := 0b00 })
  ∧ (∀ (len : BitVec 4) (data : Payload) (s : State), swOf data &&& 0xE0 = 0x20 →
      exec (.evtSetup len data) s
        = .next { s with pendingEmptyFrameRequired := true, respCode := 0b00 })
  ∧ (∀ s : State, s.zlpReq = s.pendingEmptyFrameRequired)
  ∧ (∀ s t : State, step s = .next t → s.pendingEmptyFrameRequired = true →
      t.pendingEmptyFrameRequired = false → s.pins.rst = true ∨ t.inSubmit = true)

/-- R132, R134, R138, R139, R140: DATA_FOLLOWS and nothing else. -/
def Obligations.InertRequestsOnlyAnswerDataFollows : Prop :=
  ∀ (r : BitVec 5) (b v d : Byte) (s : State),
    exec (.classD2h r b v d) s = .next { s with respCode := 0b00 }
    ∧ exec (.vendorH2d r b v d) s = .next { s with respCode := 0b00 }
    ∧ exec (.vendorD2h r b v d) s = .next { s with respCode := 0b00 }
    ∧ exec (.reservedH2d r b v d) s = .next { s with respCode := 0b00 }
    ∧ exec (.reservedD2h r b v d) s = .next { s with respCode := 0b00 }

/-- R133: ENGINE for every standard request but GET_DESCRIPTOR, and nothing else. -/
def Obligations.StandardRequestsGoToTheEngine : Prop :=
  (∀ (dir : BitVec 1) (r : BitVec 5) (b v d : Byte) (s : State),
    (Instr.stdOther dir r b v d).encodable = true →
    exec (.stdOther dir r b v d) s = .next { s with respCode := 0b10 })
  ∧ (∀ (len : BitVec 4) (data : Payload) (s : State), swOf data &&& 0x60 = 0 →
      swOf data &&& 0xFFE0 ≠ 0x680 →
      exec (.evtSetup len data) s = .next { s with respCode := 0b10 })

/-- R120: the Device Descriptor for a type of 0x01. -/
def Obligations.DeviceTypeGetsDeviceDescriptor : Prop :=
  (∀ (r : BitVec 5) (v : Byte) (s : State), exec (.getDescriptorDevice r v) s
      = .next { s with respCode := 0b01, respBase := 0x00, respLen := 18 })
  ∧ (∀ (len : BitVec 4) (data : Payload) (s : State), swOf data &&& 0xFF00FFE0 = 0x01000680 →
      exec (.evtSetup len data) s
        = .next { s with respCode := 0b01, respBase := 0x00, respLen := 18 })

/-- R121: the Configuration Descriptor for every other type, the fallback. -/
def Obligations.EveryOtherTypeGetsConfigurationDescriptor : Prop :=
  (∀ (r : BitVec 5) (v d : Byte) (s : State), d ≠ 0x01 → exec (.getDescriptorConfig r v d) s
      = .next { s with respCode := 0b01, respBase := 0x12, respLen := 101 })
  ∧ (∀ (len : BitVec 4) (data : Payload) (s : State), swOf data &&& 0x0000FFE0 = 0x00000680 →
      swDtype (swOf data) ≠ 0x01 →
      exec (.evtSetup len data) s
        = .next { s with respCode := 0b01, respBase := 0x12, respLen := 101 })

/-- R122: a lookup changes no register, phase or byte, and repeated it answers the same. -/
def Obligations.DescriptorLookupHasNoSideEffect : Prop :=
  ∀ (i : Instr) (r : BitVec 5) (v d : Byte) (s : State),
    i = .getDescriptorDevice r v ∨ i = .getDescriptorConfig r v d →
    ∃ t, exec i s = .next t ∧ t.regs = s.regs ∧ t.phase = s.phase
      ∧ (∀ a, t.romByte a = s.romByte a) ∧ (∀ a, t.inbufByte a = s.inbufByte a)
      ∧ (∀ a, t.rdbufByte a = s.rdbufByte a) ∧ exec i t = .next t

/-- R130: a SETUP runs the decoded row and touches no key register. -/
def Obligations.SetupRunsItsRow : Prop :=
  ∀ (len : BitVec 4) (data : Payload) (s : State),
    ∃ t, exec (.evtSetup len data) s = .next t ∧ exec (decodeSetup (swOf data)) s = .next t
      ∧ t.lastReportedKey = s.lastReportedKey ∧ t.currentKey = s.currentKey
      ∧ t.changed = s.changed ∧ t.phase = s.phase ∧ t.rom = s.rom ∧ t.inbuf = s.inbuf
      ∧ t.rdbuf = s.rdbuf ∧ t.inSubmit = s.inSubmit ∧ t.wdtKick = s.wdtKick

/-- R75: every word has a first matching row, and the classifier finds it. -/
def Obligations.EveryWordHasItsFirstMatchingRow : Prop :=
  ∀ sw : Word32, setupOrder.find? (fun c => sw &&& setupMask c == setupPattern c)
    = some (classify sw)

/-! ## Data stages and interrupt-OUT -/

/-- R135: min(7, maxLen) zero bytes, the buffer zeroed, and nothing else. -/
def Obligations.ControlReadAnswersZeros : Prop :=
  ∀ (len : BitVec 4) (data : Payload) (s : State), s.rdbuf.wf bufferFill rdbufSize = true →
    len.toNat ≤ 8 →
    ∃ t, exec (.evtCtrlRead len data) s = .next t
      ∧ t = { s with rdLen := BitVec.ofNat 4 (min 7 len.toNat), rdData := 0, rdbuf := t.rdbuf }
      ∧ (∀ j, j < 7 → t.rdbufByte j = 0) ∧ (∀ j, 7 ≤ j → t.rdbufByte j = s.rdbufByte j)

/-- R136, R137: a control write answers 1, an interrupt-OUT packet nothing, and no state changes. -/
def Obligations.HostDataIsDiscarded : Prop :=
  ∀ (len : BitVec 4) (data : Payload) (s : State), len.toNat ≤ 8 →
    exec (.evtCtrlWrite len data) s = .next { s with wrRet := 1 }
    ∧ exec (.evtIntOut len data) s = .next s

/-- R222: reserved kinds and lengths over 8 are refused with the event. -/
def Obligations.EventsOutsideTheProtocolAreRefused : Prop :=
  ∀ (len : BitVec 4) (data : Payload) (s : State),
    exec (.evtReserved5 len data) s = .refused (.refusedEngineEvent ⟨5, len, data⟩)
    ∧ exec (.evtReserved67 0 len data) s = .refused (.refusedEngineEvent ⟨6, len, data⟩)
    ∧ exec (.evtReserved67 1 len data) s = .refused (.refusedEngineEvent ⟨7, len, data⟩)
    ∧ (8 < len.toNat →
        exec (.evtCtrlRead len data) s = .refused (.refusedEngineEvent ⟨2, len, data⟩)
        ∧ exec (.evtCtrlWrite len data) s = .refused (.refusedEngineEvent ⟨3, len, data⟩)
        ∧ exec (.evtIntOut len data) s = .refused (.refusedEngineEvent ⟨4, len, data⟩))

/-- R143: the answer to an event does not depend on the state. -/
def Obligations.AnswersDoNotDependOnTheState : Prop :=
  ∀ (e : EngineEvent) (s s' : State), acceptedEvent e = true →
    s.rdbuf.wf bufferFill rdbufSize = true → s'.rdbuf.wf bufferFill rdbufSize = true →
    ∃ t t', exec (decodeEvent e) s = .next t ∧ exec (decodeEvent e) s' = .next t'
      ∧ (e.kind = 1 → t.respCode = t'.respCode
          ∧ (t.respCode = 0b01 → t.respBase = t'.respBase ∧ t.respLen = t'.respLen))
      ∧ (e.kind = 2 → t.rdLen = t'.rdLen ∧ t.rdData = t'.rdData)
      ∧ (e.kind = 3 → t.wrRet = t'.wrRet)

/-! ## The phases -/

/-- R200: the kick and POLL, and nothing else; the strobe is 1 for this phase alone. -/
def Obligations.KickPulsesTheWatchdog : Prop :=
  (∀ s : State, exec .phaseKick s = .next { s with wdtKick := true, phase := .poll })
  ∧ (∀ s t : State, step s = .next t →
      (t.wdtKick = true ↔ s.pins.rst = false ∧ fetch s = .ok .phaseKick))

/-- R201, one event a step (log 1): POLL runs the presented event; NONE ends the phase; no key register
and no byte of `inbuf` or the ROM changes. -/
def Obligations.PollRunsThePresentedEvent : Prop :=
  (∀ s : State, exec .evtNone s = .next { s with phase := .sample })
  ∧ (∀ s : State, exec .phasePoll s
      = exec (decodeEvent ⟨s.pins.evtKind, s.pins.evtLen, s.pins.evtData⟩) s)
  ∧ (∀ s : State, s.pins.evtKind = 0 ∨ acceptedEvent (eventOf s.pins) = true →
      ∃ t, exec .phasePoll s = .next t
        ∧ t.phase = (if s.pins.evtKind = 0 then .sample else s.phase)
        ∧ t.regs = eventRegs s.regs (eventOf s.pins)
        ∧ t.rom = s.rom ∧ t.inbuf = s.inbuf ∧ t.inSubmit = s.inSubmit ∧ t.wdtKick = s.wdtKick)

/-- R202: SAMPLE writes `currentKey` always and `changed` on a difference, and nothing else. -/
def Obligations.SampleFollowsTheKeys : Prop :=
  ∀ s : State, exec .phaseSample s = .next
    { s with
      currentKey := sample (~~~s.pins.keyN)
      changed := if sample (~~~s.pins.keyN) ≠ s.lastReportedKey then true else s.changed
      phase := .emit }

/-- R203: EMIT frames and completes when the endpoint is ready and a change is pending, else only
ends the tick; every byte of `inbuf` outside the framing is as before. -/
def Obligations.EmitFramesAPendingChange : Prop :=
  ∀ s : State, s.inbuf.wf bufferFill inbufSize = true →
    ∃ t, exec .phaseEmit s = .next t ∧
      if s.pins.inReady = true ∧ s.changed = true then
        let seq := build s.lastReportedKey s.currentKey
        let n := 4 * seq.length
        t = { s with
              lastReportedKey := s.currentKey
              changed := false
              pendingEmptyFrameRequired := if n > 0 then n == 8 else s.pendingEmptyFrameRequired
              phase := .kick
              inbuf := t.inbuf
              inSubmit := if n > 0 then true else s.inSubmit
              inLen := if n > 0 then BitVec.ofNat 4 n else s.inLen
              inData := if n > 0 then t.inData else s.inData }
          ∧ (n > 0 → t.submittedBytes = seq.flatMap packetBytes)
          ∧ ∀ c, t.inbufByte c = if c < n then (seq.flatMap packetBytes).getD c 0 else s.inbufByte c
      else t = { s with phase := .kick }

/-! ## The key tracker -/

/-- R161: the note of the lowest pressed key, 0 for none, never 71 or 72. -/
def Obligations.LowestPressedKeyWins : Prop :=
  sample 0 = 0
  ∧ (∀ (p : BitVec 6) (i : Nat), i < 6 → p.getLsbD i = true → (∀ j, j < i → p.getLsbD j = false) →
      sample p = ([60, 62, 64, 65, 67, 69] : List Byte).getD i 0)
  ∧ (∀ p : BitVec 6, sample p ≠ 71 ∧ sample p ≠ 72)
  ∧ (∀ i j : Nat, i < j → j < 6 → (noteOfKey i).toNat < (noteOfKey j).toNat)

/-- R161, R162 (log 9): a key row writes its note to `currentKey` and nothing else, and the decoded
row of a key word writes the sample. -/
def Obligations.KeyRowsWriteTheirNote : Prop :=
  (∀ s : State,
    (∀ a, exec (.keySample60 a) s = .next { s with currentKey := 60 })
    ∧ (∀ a, exec (.keySample62 a) s = .next { s with currentKey := 62 })
    ∧ (∀ a, exec (.keySample64 a) s = .next { s with currentKey := 64 })
    ∧ (∀ a, exec (.keySample65 a) s = .next { s with currentKey := 65 })
    ∧ (∀ a, exec (.keySample67 a) s = .next { s with currentKey := 67 })
    ∧ exec .keySample69 s = .next { s with currentKey := 69 }
    ∧ exec .keySampleNone s = .next { s with currentKey := 0 })
  ∧ (∀ (p : BitVec 6) (s : State), exec (decodeKeys p) s = .next { s with currentKey := sample p })

/-- R163: EDGE_DETECT sets `changed` on a difference from the reported key, never clears it, and runs
in SAMPLE right after `currentKey` is written. -/
def Obligations.EdgeDetectComparesWithTheReportedKey : Prop :=
  (∀ s : State, s.detectEdge
    = { s with changed := if s.currentKey ≠ s.lastReportedKey then true else s.changed })
  ∧ (∀ s : State, exec .phaseSample s
      = .next ((s.setCurrentKey (sample (~~~s.pins.keyN))).detectEdge.setPhase .emit))

/-- R166: with the reported key held, any number of samples marks no change. -/
def Obligations.SamplingIsIdempotent : Prop :=
  ∀ (s : State) (n : Nat), s.changed = false → sample (~~~s.pins.keyN) = s.lastReportedKey →
    ∃ t, samplePhases s (n + 1) = .next t ∧ t.changed = false
      ∧ t.currentKey = t.lastReportedKey ∧ t.lastReportedKey = s.lastReportedKey

/-! ## The packet builder and framer -/

/-- R180: the packets of a transition, Note-Off before Note-On, at most two, none for no key after no
key. -/
def Obligations.BuildMakesOffThenOn : Prop :=
  ∀ prev cur : Byte,
    (build prev cur).map packetBytes
      = (if prev ≠ 0 then [[0x08, 0x80, prev, 0x00]] else [])
        ++ (if cur ≠ 0 then [[0x09, 0x90, cur, 0x7F]] else [])
    ∧ (build prev cur).length ≤ 2
    ∧ (build prev cur = [] ↔ prev = 0 ∧ cur = 0)

/-- R184: the byte count of each case. -/
def Obligations.FrameLengthIsZeroFourOrEight : Prop :=
  ∀ prev cur : Byte, frameLen prev cur
    = if prev = 0 ∧ cur = 0 then 0 else if prev = 0 ∨ cur = 0 then 4 else 8

/-- R181, formed in its place (log 10): the four bytes at offset 0 and nothing else. -/
def Obligations.NoteOffIsStagedFirst : Prop :=
  ∀ (k : Byte) (s : State), s.inbuf.wf bufferFill inbufSize = true →
    ∃ t, exec (.noteOff k) s = .next t ∧ t = { s with inbuf := t.inbuf }
      ∧ t.inbufByte 0 = 0x08 ∧ t.inbufByte 1 = 0x80 ∧ t.inbufByte 2 = k ∧ t.inbufByte 3 = 0x00
      ∧ ∀ c, 4 ≤ c → t.inbufByte c = s.inbufByte c

/-- R182, formed in its place (log 10): the four bytes after the Note-Off where the framing has one,
and nothing else. -/
def Obligations.NoteOnIsStagedAfterNoteOff : Prop :=
  ∀ (k : Byte) (s : State), s.inbuf.wf bufferFill inbufSize = true →
    packetOffset (noteOnPosition s) = (if s.lastReportedKey = 0 then 0 else 4)
    ∧ ∃ t, exec (.noteOn k) s = .next t ∧ t = { s with inbuf := t.inbuf }
      ∧ t.inbufByte (packetOffset (noteOnPosition s)) = 0x09
      ∧ t.inbufByte (packetOffset (noteOnPosition s) + 1) = 0x90
      ∧ t.inbufByte (packetOffset (noteOnPosition s) + 2) = k
      ∧ t.inbufByte (packetOffset (noteOnPosition s) + 3) = 0x7F
      ∧ ∀ c, c < packetOffset (noteOnPosition s) ∨ packetOffset (noteOnPosition s) + 4 ≤ c →
          t.inbufByte c = s.inbufByte c

/-- R77: the two packet words of the table, and their rows. -/
def Obligations.PacketWordsAreTheTables : Prop :=
  ∀ k : Byte,
    word32 0x08 0x80 k 0x00 = (0x00008008 ||| (k.setWidth 32 <<< 16))
    ∧ word32 0x09 0x90 k 0x7F = (0x7F009009 ||| (k.setWidth 32 <<< 16))
    ∧ decodePacket (0x00008008 ||| (k.setWidth 32 <<< 16)) = .ok (.noteOff k)
    ∧ decodePacket (0x7F009009 ||| (k.setWidth 32 <<< 16)) = .ok (.noteOn k)

/-- R141, R55: the submission's ports carry the packets, byte j at bits 8j+7:8j, and 0 above them. -/
def Obligations.SubmissionPortsCarryThePackets : Prop :=
  ∀ s : State, s.inbuf.wf bufferFill inbufSize = true → s.pins.inReady = true →
    s.changed = true → build s.lastReportedKey s.currentKey ≠ [] →
    ∃ t, exec .phaseEmit s = .next t ∧ t.inSubmit = true
      ∧ t.inLen.toNat = 4 * (build s.lastReportedKey s.currentKey).length
      ∧ ∀ j, j < 8 → payloadByte t.inData j
          = ((build s.lastReportedKey s.currentKey).flatMap packetBytes).getD j 0

/-- R34, R183: the strobe is 1 exactly after an EMIT that was ready and framed a pending, non-empty
change. -/
def Obligations.StrobeMeansAFramedChange : Prop :=
  ∀ s t : State, step s = .next t →
    (t.inSubmit = true ↔ s.pins.rst = false ∧ fetch s = .ok .phaseEmit ∧ s.pins.inReady = true
      ∧ s.changed = true ∧ ¬ (s.lastReportedKey = 0 ∧ s.currentKey = 0))

/-- The framing of EMIT is the packet rows run one after the other (log 10). -/
def Obligations.EmitStagesThroughThePacketRows : Prop :=
  ∀ s : State, s.pins.inReady = true → s.changed = true →
    ∃ t, exec .phaseEmit s = .next t
      ∧ (s.lastReportedKey ≠ 0 → s.currentKey ≠ 0 →
          ∃ u v, exec (.noteOff s.lastReportedKey) s = .next u
            ∧ exec (.noteOn s.currentKey) u = .next v ∧ t.inbuf = v.inbuf)
      ∧ (s.lastReportedKey ≠ 0 → s.currentKey = 0 →
          ∃ u, exec (.noteOff s.lastReportedKey) s = .next u ∧ t.inbuf = u.inbuf)
      ∧ (s.lastReportedKey = 0 → s.currentKey ≠ 0 →
          ∃ u, exec (.noteOn s.currentKey) s = .next u ∧ t.inbuf = u.inbuf)
      ∧ (s.lastReportedKey = 0 → s.currentKey = 0 → t.inbuf = s.inbuf)

/-! ## Encodings -/

/-- Decoding an encoded row gives the row back, every operand at every value its encoding admits. -/
def Obligations.DecodeUndoesEncode : Prop :=
  ∀ i : Instr, i.encodable = true → decodeBytes i.format (encode i) = .ok i

/-- Every SETUP word has one row: encoding its decoding gives the four bytes back. -/
def Obligations.EncodeUndoesSetupDecode : Prop :=
  ∀ s0 s1 s2 s3 : Byte,
    (decodeSetup (word32 s0 s1 s2 s3)).encodable = true
    ∧ encode (decodeSetup (word32 s0 s1 s2 s3)) = [s0, s1, s2, s3]

/-- A few words of opcode_table.json, written out from 30_encoding.md R75, R77, R78 and
42_key_tracker.md R161. -/
def Obligations.WrittenWordsDecodeToTheirRows : Prop :=
  decodeSetup 0x01000680 = .getDescriptorDevice 0 0
  ∧ decodeSetup 0x03010680 = .getDescriptorConfig 0 1 3
  ∧ decodeSetup 0x00010900 = .stdOther 0 0 9 1 0
  ∧ decodeSetup 0x00000A21 = .classH2d 1 0x0A 0 0
  ∧ decodeEvent ⟨0b010, 8, 0⟩ = .evtCtrlRead 8 0
  ∧ decodePacket 0x7F3C9009 = .ok (.noteOn 60)
  ∧ decodeKeys 0b001100 = .keySample64 0b001
  ∧ decodePhase 0b11 = .phaseEmit

/-! ## The descriptor ROM -/

/-- R116: the dump of the whole ROM. -/
def Obligations.RomHoldsTheDump : Prop :=
  ∀ s : State, s.rom = [] → s.memRead 0 128 =
    [0x12, 0x01, 0x10, 0x01, 0x00, 0x00, 0x00, 0x08, Config.pVid.extractLsb' 0 8,
     Config.pVid.extractLsb' 8 8, Config.pPid.extractLsb' 0 8, Config.pPid.extractLsb' 8 8,
     Config.pBcdDevice.extractLsb' 0 8, Config.pBcdDevice.extractLsb' 8 8, 0x01, 0x02]
    ++ [0x00, 0x01, 0x09, 0x02, 0x65, 0x00, 0x02, 0x01, 0x00, Config.cfgAttributes, Config.maxPower,
     0x09, 0x04, 0x00, 0x00, 0x00]
    ++ [0x01, 0x01, 0x00, 0x00, 0x09, 0x24, 0x01, 0x00, 0x01, 0x09, 0x00, 0x01, 0x01, 0x09, 0x04, 0x01]
    ++ [0x00, 0x02, 0x01, 0x03, 0x00, 0x00, 0x07, 0x24, 0x01, 0x00, 0x01, 0x41, 0x00, 0x06, 0x24, 0x02]
    ++ [0x01, 0x01, 0x00, 0x06, 0x24, 0x02, 0x02, 0x02, 0x00, 0x09, 0x24, 0x03, 0x01, 0x03, 0x01, 0x02]
    ++ [0x01, 0x00, 0x09, 0x24, 0x03, 0x02, 0x04, 0x01, 0x01, 0x01, 0x00, 0x09, 0x05, 0x01, 0x03, 0x08]
    ++ [0x00, 0x0A, 0x00, 0x00, 0x05, 0x25, 0x01, 0x01, 0x01, 0x09, 0x05, 0x81, 0x03, 0x08, 0x00, 0x0A]
    ++ [0x00, 0x00, 0x05, 0x25, 0x01, 0x01, 0x03, 0x00, 0x00, 0x00, 0x00, 0x00, 0x00, 0x00, 0x00, 0x00]

/-- R117: the length fields agree with the descriptors, and the walk by `bLength` ends at 101. -/
def Obligations.DescriptorLengthsAgree : Prop :=
  (∀ s : State, s.rom = [] → s.romField 0x14 = 101 ∧ s.romField 0x3B = 65 ∧ s.romField 0x29 = 9
    ∧ (s.romByte 0x24).toNat = 9 ∧ (s.romByte 0x00).toNat = 18)
  ∧ configurationDescriptor.length = 101
  ∧ walkLengths configurationDescriptor 14 = [9, 9, 9, 9, 7, 6, 6, 9, 9, 9, 5, 9, 5]
  ∧ (walkLengths configurationDescriptor 14).sum = 101
  ∧ ((walkLengths configurationDescriptor 14).drop 4).sum = 65

/-- R51: addresses are taken modulo 128, in order, and the three regions. -/
def Obligations.RomAddressesWrap : Prop :=
  ∀ (s : State) (a n : Nat), s.rom = [] →
    s.memRead a n = (List.range n).map (fun i => romImage ((a + i) % 128))
    ∧ (a ≤ 0x11 → s.romByte a = deviceDescriptor.getD a 0)
    ∧ (0x12 ≤ a → a ≤ 0x76 → s.romByte a = configurationDescriptor.getD (a - 0x12) 0)
    ∧ (0x77 ≤ a → a ≤ 0x7F → s.romByte a = 0)
    ∧ s.memRead s.pins.romAddr.toNat 1 = [s.romData]

/-- R120, R121 with R123: a DESCRIPTOR answer points at the bytes of its descriptor, cut at `wLength`. -/
def Obligations.DescriptorAnswerPointsAtItsDescriptor : Prop :=
  ∀ (r : BitVec 5) (v d : Byte) (s : State) (wLength : Nat), s.rom = [] →
    (∃ t, exec (.getDescriptorDevice r v) s = .next t
      ∧ t.descriptorReply wLength = deviceDescriptor.take wLength)
    ∧ (d ≠ 0x01 → ∃ t, exec (.getDescriptorConfig r v d) s = .next t
      ∧ t.descriptorReply wLength = configurationDescriptor.take wLength)

/-- R50: nothing writes the ROM, no row and no step, reset included. -/
def Obligations.RomIsNeverWritten : Prop :=
  (∀ (i : Instr) (s t : State), exec i s = .next t → ∀ a n, t.memRead a n = s.memRead a n)
  ∧ (∀ s t : State, step s = .next t → ∀ a n, t.memRead a n = s.memRead a n)

/-! ## The step -/

/-- With `rst` released a step runs the decoded row on the state with its output ports released, then
the input ports are driven again (log 3, log 4). With nothing offered the row is the phase's. -/
def Obligations.StepRunsTheDecodedRow : Prop :=
  (∀ (s : State) (i : Instr), s.pins.rst = false → fetch s = .ok i →
    step s = thenDrivePins (exec i s.beginStep))
  ∧ (∀ s : State, thenDrivePins (.next s) = .next s.drivePins)
  ∧ (∀ e : Refusal, thenDrivePins (.refused e) = .refused e)
  ∧ (∀ s : State, s.beginStep.regs = s.regs ∧ s.beginStep.phase = s.phase
      ∧ s.beginStep.pins = s.pins ∧ s.beginStep.rom = s.rom ∧ s.beginStep.inbuf = s.inbuf
      ∧ s.beginStep.rdbuf = s.rdbuf ∧ s.beginStep.inSubmit = false ∧ s.beginStep.wdtKick = false)
  ∧ (∀ s : State, s.slot = none → fetch s = .ok (decodePhase (phaseCode s.phase)))
  ∧ (∀ (s : State) (sl : Slot), s.slot = some sl → fetch s = decodeBytes sl.format sl.bytes)
  ∧ (∀ s : State, s.drivePins =
      { s with
        pins := s.script.headD (freePins s.clock)
        script := s.script.tail
        clock := s.clock + 1 })

/-- R240, R39: an asserted `rst` puts every register at its reset value, whatever else is asked. -/
def Obligations.AssertedResetClearsEveryRegister : Prop :=
  ∀ s : State, s.pins.rst = true →
    ∃ t, step s = .next t ∧ t.regs = ⟨0, 0, false, false⟩ ∧ t.phase = .kick ∧ t.zlpReq = false
      ∧ t.inSubmit = false ∧ t.wdtKick = false ∧ t.rom = s.rom

/-- R39: the values the spec gives the state after reset. -/
def Obligations.ResetHoldsTheSpecsValues : Prop :=
  State.reset.lastReportedKey = 0 ∧ State.reset.currentKey = 0 ∧ State.reset.changed = false
  ∧ State.reset.pendingEmptyFrameRequired = false ∧ State.reset.zlpReq = false
  ∧ State.reset.phase = .kick ∧ State.reset.inSubmit = false ∧ State.reset.wdtKick = false
  ∧ ∀ a, State.reset.romByte a = romImage (a % 128)

/-- The invariant holds at reset. -/
def Obligations.ResetMeetsTheInvariant : Prop := State.reset.inv

/-- R29 (1) and the memories' canonical form: every step keeps them, from every state that has them. -/
def Obligations.EveryStepKeepsTheInvariant : Prop :=
  ∀ s t : State, s.inv → step s = .next t → t.inv

/-- R27: the phase order, POLL going on while events are presented (log 1). -/
def Obligations.PhaseOrderIsFixed : Prop :=
  ∀ s t : State, s.pins.rst = false → s.slot = none → step s = .next t →
    t.phase = if s.phase = .poll ∧ s.pins.evtKind ≠ 0 then .poll else nextPhase s.phase

/-- R209: with nothing offered, a step always goes on, but for an event outside the protocol in POLL. -/
def Obligations.BlockNeverStops : Prop :=
  ∀ s : State, s.slot = none →
    (s.phase = .poll → s.pins.evtKind = 0 ∨ acceptedEvent (eventOf s.pins) = true) →
    ∃ t, step s = .next t ∧ (s.pins.rst = true → t.phase = .kick)
      ∧ (s.pins.rst = false → s.phase = .emit → t.phase = .kick)

/-- R222 and log 2: the only stops of a step. -/
def Obligations.StepStopsOnlyOnARefusedEvent : Prop :=
  ∀ (s : State) (r : Refusal), step s = .refused r →
    (∃ e : EngineEvent, r = .refusedEngineEvent e ∧ e.kind ≠ 0 ∧ acceptedEvent e = false
      ∧ (s.slot = none → s.phase = .poll ∧ e = eventOf s.pins))
    ∨ (∃ sl, r = .undecodable sl ∧ s.slot = some sl)

/-- R221: a submission while the endpoint is busy is the fault, and no step reaches it. -/
def Obligations.SubmitWhileBusyNeverHappens : Prop :=
  (∀ (n : Nat) (s : State), s.pins.inReady = false →
    ∃ len data, submit n s = .fault (.submitWhileBusy len data))
  ∧ (∀ (s : State) (e : Fault), step s ≠ .fault e)

/-- R164: only EMIT writes `lastReportedKey`, and only once it has framed. -/
def Obligations.OnlyEmitWritesTheReportedKey : Prop :=
  ∀ s t : State, s.pins.rst = false → step s = .next t →
    t.lastReportedKey ≠ s.lastReportedKey →
    fetch s = .ok .phaseEmit ∧ s.pins.inReady = true ∧ s.changed = true
      ∧ t.lastReportedKey = s.currentKey ∧ t.changed = false ∧ t.inSubmit = true

/-- R24: only a class host-to-device SETUP and a submission write the empty-frame flag. -/
def Obligations.OnlyTwoRulesWriteTheEmptyFrameFlag : Prop :=
  ∀ s t : State, s.pins.rst = false → step s = .next t →
    t.pendingEmptyFrameRequired ≠ s.pendingEmptyFrameRequired →
    (t.pendingEmptyFrameRequired = true ∧ ∃ i, fetch s = .ok i
      ∧ ((∃ r b v d, i = .classH2d r b v d)
        ∨ (∃ l d, i = .evtSetup l d ∧ classify (swOf d) = .classH2d)
        ∨ (i = .phasePoll ∧ s.pins.evtKind = 1 ∧ classify (swOf s.pins.evtData) = .classH2d)))
    ∨ (t.inSubmit = true ∧ t.pendingEmptyFrameRequired = (t.inLen == 8))

/-- R31, R32, R34: each input port is read in its own phase and in no other. -/
def Obligations.InputsAreReadOnlyInTheirPhase : Prop :=
  ∀ (s : State) (p : Pins), s.slot = none → s.pins.rst = false → p.rst = false →
    (s.phase = .poll →
      p.evtKind = s.pins.evtKind ∧ p.evtLen = s.pins.evtLen ∧ p.evtData = s.pins.evtData) →
    (s.phase = .sample → p.keyN = s.pins.keyN) →
    (s.phase = .emit → p.inReady = s.pins.inReady) →
    step { s with pins := p } = step s

/-! ## Ticks -/

/-- R207: the steps of a tick compute the tick: registers, submission, and back at KICK. -/
def Obligations.TickRunsAsItsPhases : Prop :=
  ∀ (s : State) (i : TickInputs), s.phase = .kick → s.inbuf.wf bufferFill inbufSize = true →
    (∀ e ∈ i.events, acceptedEvent e = true) →
    ∃ t, runTick i s = .next t ∧ t.phase = .kick ∧ t.regs = tickRegs i s.regs
      ∧ t.submittedBytes = tickSubmission i s.regs ∧ t.rom = s.rom

/-- R205: a pending transition is deferred while the endpoint is busy, then framed from the reported
key and the latest sample (R206). -/
def Obligations.DeferredTransitionIsFramedWhenReady : Prop :=
  ∀ (s : State) (inputs : Nat → TickInputs) (n : Nat), s.phase = .kick →
    s.inbuf.wf bufferFill inbufSize = true → s.changed = true →
    (∀ m, ∀ e ∈ (inputs m).events, acceptedEvent e = true) →
    (∀ m, m < n → (inputs m).inReady = false) → (inputs n).inReady = true →
    (∀ m, m < n → ∃ t, runTicks inputs s (m + 1) = .next t ∧ t.submittedBytes = []
      ∧ t.changed = true ∧ t.lastReportedKey = s.lastReportedKey)
    ∧ ∃ u, runTicks inputs s (n + 1) = .next u ∧ u.changed = false
        ∧ u.lastReportedKey = sample (~~~(inputs n).keyN)
        ∧ u.submittedBytes
            = (build s.lastReportedKey (sample (~~~(inputs n).keyN))).flatMap packetBytes

/-- R210: under READY_INFINITELY_OFTEN every pending transition is framed at some later tick. -/
def Obligations.FairRunsFramePendingTransitions : Prop :=
  ∀ (s : State) (inputs : Nat → TickInputs), s.phase = .kick →
    s.inbuf.wf bufferFill inbufSize = true →
    (∀ m, ∀ e ∈ (inputs m).events, acceptedEvent e = true) → readyInfinitelyOften inputs →
    ∀ n, ∃ t, runTicks inputs s n = .next t ∧ (t.changed = true →
      ∃ m u, n < m ∧ runTicks inputs s m = .next u ∧ u.changed = false
        ∧ u.lastReportedKey = u.currentKey)

/-- R242: the first tick after reset with a key held submits its Note-On; with none, nothing. -/
def Obligations.FirstTickReportsAHeldKey : Prop :=
  ∀ i : TickInputs, (∀ e ∈ i.events, acceptedEvent e = true) → i.inReady = true →
    ∃ t, runTick i State.reset = .next t
      ∧ t.submittedBytes = (if sample (~~~i.keyN) = 0 then []
          else [0x09, 0x90, sample (~~~i.keyN), 0x7F])
      ∧ t.lastReportedKey = sample (~~~i.keyN)

/-- R188: a step's submission leaves the host with the reported key's note on and no other. -/
def Obligations.HostHearsAtMostOneNote : Prop :=
  ∀ s t : State, s.inbuf.wf bufferFill inbufSize = true → s.pins.rst = false → step s = .next t →
    soundAfter (soundOf s.lastReportedKey) t.submittedBytes = soundOf t.lastReportedKey
    ∧ (soundOf t.lastReportedKey).length ≤ 1
end

