-- ==== Sys2Proof/Laws/Decode.lean ====
section
/-!
SUPPORT. The SETUP table of 30_encoding.md R75 in terms of its fields: what each row's mask and match
say of direction, type, bRequest and dtype, and the fields of a word laid out from them.
-/

namespace Sys2Proof

/-- Two words are the same when their bits are. -/
theorem eq_iff_bits {n : Nat} (x y : BitVec n) : x = y ↔ ∀ i < n, x.getLsbD i = y.getLsbD i :=
  ⟨fun h _ _ => h ▸ rfl, fun h => BitVec.eq_of_getLsbD_eq h⟩

theorem setupMatches_getDescriptorDevice (sw : Word32) :
    setupMatches .getDescriptorDevice sw = true
      ↔ swDir sw = 1 ∧ swType sw = 0 ∧ swRequest sw = 6 ∧ swDtype sw = 1 := by
  simp only [setupMatches, setupMask, setupPattern, beq_iff_eq, eq_iff_bits, swDir, swType,
    swRequest, swDtype, Nat.forall_lt_succ_right, Nat.not_lt_zero, IsEmpty.forall_iff,
    implies_true, true_and]
  simp [-BitVec.getLsbD_eq_getElem]
  tauto

theorem setupMatches_getDescriptorConfig (sw : Word32) :
    setupMatches .getDescriptorConfig sw = true
      ↔ swDir sw = 1 ∧ swType sw = 0 ∧ swRequest sw = 6 := by
  simp only [setupMatches, setupMask, setupPattern, beq_iff_eq, eq_iff_bits, swDir, swType,
    swRequest, Nat.forall_lt_succ_right, Nat.not_lt_zero, IsEmpty.forall_iff,
    implies_true, true_and]
  simp [-BitVec.getLsbD_eq_getElem]
  tauto

theorem setupMatches_stdOther (sw : Word32) :
    setupMatches .stdOther sw = true ↔ swType sw = 0 := by
  simp only [setupMatches, setupMask, setupPattern, beq_iff_eq, eq_iff_bits, swType,
    Nat.forall_lt_succ_right, Nat.not_lt_zero, IsEmpty.forall_iff,
    implies_true, true_and]
  simp [-BitVec.getLsbD_eq_getElem]

theorem setupMatches_classH2d (sw : Word32) :
    setupMatches .classH2d sw = true ↔ swDir sw = 0 ∧ swType sw = 1 := by
  simp only [setupMatches, setupMask, setupPattern, beq_iff_eq, eq_iff_bits, swDir, swType,
    Nat.forall_lt_succ_right, Nat.not_lt_zero, IsEmpty.forall_iff,
    implies_true, true_and]
  simp [-BitVec.getLsbD_eq_getElem]
  tauto

theorem setupMatches_classD2h (sw : Word32) :
    setupMatches .classD2h sw = true ↔ swDir sw = 1 ∧ swType sw = 1 := by
  simp only [setupMatches, setupMask, setupPattern, beq_iff_eq, eq_iff_bits, swDir, swType,
    Nat.forall_lt_succ_right, Nat.not_lt_zero, IsEmpty.forall_iff,
    implies_true, true_and]
  simp [-BitVec.getLsbD_eq_getElem]
  tauto

theorem setupMatches_vendorH2d (sw : Word32) :
    setupMatches .vendorH2d sw = true ↔ swDir sw = 0 ∧ swType sw = 2 := by
  simp only [setupMatches, setupMask, setupPattern, beq_iff_eq, eq_iff_bits, swDir, swType,
    Nat.forall_lt_succ_right, Nat.not_lt_zero, IsEmpty.forall_iff,
    implies_true, true_and]
  simp [-BitVec.getLsbD_eq_getElem]
  tauto

theorem setupMatches_vendorD2h (sw : Word32) :
    setupMatches .vendorD2h sw = true ↔ swDir sw = 1 ∧ swType sw = 2 := by
  simp only [setupMatches, setupMask, setupPattern, beq_iff_eq, eq_iff_bits, swDir, swType,
    Nat.forall_lt_succ_right, Nat.not_lt_zero, IsEmpty.forall_iff,
    implies_true, true_and]
  simp [-BitVec.getLsbD_eq_getElem]
  tauto

theorem setupMatches_reservedH2d (sw : Word32) :
    setupMatches .reservedH2d sw = true ↔ swDir sw = 0 ∧ swType sw = 3 := by
  simp only [setupMatches, setupMask, setupPattern, beq_iff_eq, eq_iff_bits, swDir, swType,
    Nat.forall_lt_succ_right, Nat.not_lt_zero, IsEmpty.forall_iff,
    implies_true, true_and]
  simp [-BitVec.getLsbD_eq_getElem]
  tauto

theorem setupMatches_reservedD2h (sw : Word32) :
    setupMatches .reservedD2h sw = true ↔ swDir sw = 1 ∧ swType sw = 3 := by
  simp only [setupMatches, setupMask, setupPattern, beq_iff_eq, eq_iff_bits, swDir, swType,
    Nat.forall_lt_succ_right, Nat.not_lt_zero, IsEmpty.forall_iff,
    implies_true, true_and]
  simp [-BitVec.getLsbD_eq_getElem]
  tauto

/-- The class of a SETUP word by its fields, the `condition` column of 30_encoding.md R75. -/
theorem classify_eq_fields (sw : Word32) :
    classify sw =
      if swType sw = 0 then
        if swDir sw = 1 ∧ swRequest sw = 6 then
          if swDtype sw = 1 then .getDescriptorDevice else .getDescriptorConfig
        else .stdOther
      else if swType sw = 1 then if swDir sw = 0 then .classH2d else .classD2h
      else if swType sw = 2 then if swDir sw = 0 then .vendorH2d else .vendorD2h
      else if swDir sw = 0 then .reservedH2d else .reservedD2h := by
  unfold classify
  simp only [setupMatches_getDescriptorDevice, setupMatches_getDescriptorConfig,
    setupMatches_stdOther, setupMatches_classH2d, setupMatches_classD2h, setupMatches_vendorH2d,
    setupMatches_vendorD2h, setupMatches_reservedH2d]
  by_cases hr : swRequest sw = 6 <;> by_cases hk : swDtype sw = 1 <;> simp only [hr, hk] <;>
    generalize swDir sw = d <;> generalize swType sw = t <;> revert d t <;> decide

/-! ## The fields of a word laid out from them -/

theorem getLsbD_word32 (s0 s1 s2 s3 : Byte) (i : Nat) :
    (word32 s0 s1 s2 s3).getLsbD i
      = if i < 8 then s0.getLsbD i
        else if i < 16 then s1.getLsbD (i - 8)
        else if i < 24 then s2.getLsbD (i - 16)
        else s3.getLsbD (i - 24) := by
  refine (BitVec.getLsbD_append (x := s3 ++ s2 ++ s1) (y := s0)).trans ?_
  rw [BitVec.getLsbD_append, BitVec.getLsbD_append]
  rcases Nat.lt_or_ge i 8 with h | h
  · simp [h]
  · obtain ⟨j, rfl⟩ := Nat.exists_eq_add_of_le h
    rcases Nat.lt_or_ge j 8 with h1 | h1
    · have h2 : 8 + j < 16 := by omega
      simp [h1, h2]
    · obtain ⟨k, rfl⟩ := Nat.exists_eq_add_of_le h1
      rcases Nat.lt_or_ge k 8 with h2 | h2
      · have h3 : ¬ 8 + (8 + k) < 16 := by omega
        have h4 : 8 + (8 + k) < 24 := by omega
        have h5 : 8 + (8 + k) - 16 = k := by omega
        simp [h2, h3, h4, h5]
      · have h3 : ¬ 8 + (8 + k) < 16 := by omega
        have h4 : ¬ 8 + (8 + k) < 24 := by omega
        have h5 : 8 + (8 + k) - 24 = k - 8 := by omega
        have h6 : ¬ k < 8 := by omega
        simp [h3, h4, h5, h6]

/-- The first byte of a SETUP word from its three fields. -/
theorem getLsbD_requestType (dir : BitVec 1) (type : BitVec 2) (r : BitVec 5) (i : Nat) :
    BitVec.getLsbD (w := 8) (dir ++ type ++ r) i
      = if i < 5 then r.getLsbD i
        else if i < 7 then type.getLsbD (i - 5)
        else dir.getLsbD (i - 7) := by
  refine (BitVec.getLsbD_append (x := dir ++ type) (y := r)).trans ?_
  rw [BitVec.getLsbD_append]
  rcases Nat.lt_or_ge i 5 with h | h
  · simp [h]
  · obtain ⟨j, rfl⟩ := Nat.exists_eq_add_of_le h
    rcases Nat.lt_or_ge j 2 with h1 | h1
    · have h2 : 5 + j < 7 := by omega
      simp [h1, h2]
    · have h2 : ¬ 5 + j < 7 := by omega
      have h3 : ¬ j < 2 := by omega
      have h4 : 5 + j - 7 = j - 2 := by omega
      simp [h2, h3, h4]

variable (dir : BitVec 1) (type : BitVec 2) (r : BitVec 5) (s0 b v d : Byte)

@[simp] theorem swDir_word32 : swDir (word32 (dir ++ type ++ r) b v d) = dir := by
  apply BitVec.eq_of_getLsbD_eq
  intro i hi
  have h : i = 0 := by omega
  subst h
  rw [swDir, BitVec.getLsbD_extractLsb', getLsbD_word32, getLsbD_requestType]
  simp

@[simp] theorem swType_word32 : swType (word32 (dir ++ type ++ r) b v d) = type := by
  apply BitVec.eq_of_getLsbD_eq
  intro i hi
  have h1 : 5 + i < 8 := by omega
  have h2 : ¬ 5 + i < 5 := by omega
  have h3 : 5 + i < 7 := by omega
  rw [swType, BitVec.getLsbD_extractLsb', getLsbD_word32, getLsbD_requestType, if_pos h1,
    if_neg h2, if_pos h3]
  simp [hi]

@[simp] theorem swRecipient_word32 : swRecipient (word32 (dir ++ type ++ r) b v d) = r := by
  apply BitVec.eq_of_getLsbD_eq
  intro i hi
  have h1 : 0 + i < 8 := by omega
  have h2 : 0 + i < 5 := by omega
  rw [swRecipient, BitVec.getLsbD_extractLsb', getLsbD_word32, getLsbD_requestType, if_pos h1,
    if_pos h2]
  simp [hi]

@[simp] theorem swRequest_word32 : swRequest (word32 s0 b v d) = b := by
  apply BitVec.eq_of_getLsbD_eq
  intro i hi
  have h1 : ¬ 8 + i < 8 := by omega
  have h2 : 8 + i < 16 := by omega
  rw [swRequest, BitVec.getLsbD_extractLsb', getLsbD_word32, if_neg h1, if_pos h2]
  simp [hi]

@[simp] theorem swValueLo_word32 : swValueLo (word32 s0 b v d) = v := by
  apply BitVec.eq_of_getLsbD_eq
  intro i hi
  have h1 : ¬ 16 + i < 8 := by omega
  have h2 : ¬ 16 + i < 16 := by omega
  have h3 : 16 + i < 24 := by omega
  rw [swValueLo, BitVec.getLsbD_extractLsb', getLsbD_word32, if_neg h1, if_neg h2, if_pos h3]
  simp [hi]

@[simp] theorem swDtype_word32 : swDtype (word32 s0 b v d) = d := by
  apply BitVec.eq_of_getLsbD_eq
  intro i hi
  have h1 : ¬ 24 + i < 8 := by omega
  have h2 : ¬ 24 + i < 16 := by omega
  have h3 : ¬ 24 + i < 24 := by omega
  rw [swDtype, BitVec.getLsbD_extractLsb', getLsbD_word32, if_neg h1, if_neg h2, if_neg h3]
  simp [hi]

/-- The row of a word laid out from its fields. -/
theorem decodeSetup_word32 :
    decodeSetup (word32 (dir ++ type ++ r) b v d) =
      if type = 0 then
        if dir = 1 ∧ b = 6 then
          if d = 1 then .getDescriptorDevice r v else .getDescriptorConfig r v d
        else .stdOther dir r b v d
      else if type = 1 then if dir = 0 then .classH2d r b v d else .classD2h r b v d
      else if type = 2 then if dir = 0 then .vendorH2d r b v d else .vendorD2h r b v d
      else if dir = 0 then .reservedH2d r b v d else .reservedD2h r b v d := by
  unfold decodeSetup
  rw [classify_eq_fields]
  simp only [swDir_word32, swType_word32, swRecipient_word32, swRequest_word32, swValueLo_word32,
    swDtype_word32]
  split_ifs <;> rfl

/-- The bytes of a SETUP row are read as its fields. -/
theorem decodeBytes_packSw :
    decodeBytes .setupSw (packSw dir type r b v d)
      = .ok (decodeSetup (word32 (dir ++ type ++ r) b v d)) := rfl

/-- The first byte of a SETUP word is its three fields. -/
theorem requestType_fields :
    s0.extractLsb' 7 1 ++ s0.extractLsb' 5 2 ++ s0.extractLsb' 0 5 = s0 := by
  revert s0; decide

/-! ## Events -/

/-- A payload is its eight bytes. -/
theorem payload64_payloadByte (data : Payload) :
    payload64 (payloadByte data 0) (payloadByte data 1) (payloadByte data 2) (payloadByte data 3)
      (payloadByte data 4) (payloadByte data 5) (payloadByte data 6) (payloadByte data 7) = data := by
  have h (lo n : Nat) :
      data.extractLsb' (lo + 8) n ++ data.extractLsb' lo 8 = data.extractLsb' lo (n + 8) :=
    BitVec.extractLsb'_append_extractLsb'_eq_extractLsb' rfl
  have h6 : payloadByte data 7 ++ payloadByte data 6 = data.extractLsb' 48 16 := h 48 8
  have h5 : data.extractLsb' 48 16 ++ payloadByte data 5 = data.extractLsb' 40 24 := h 40 16
  have h4 : data.extractLsb' 40 24 ++ payloadByte data 4 = data.extractLsb' 32 32 := h 32 24
  have h3 : data.extractLsb' 32 32 ++ payloadByte data 3 = data.extractLsb' 24 40 := h 24 32
  have h2 : data.extractLsb' 24 40 ++ payloadByte data 2 = data.extractLsb' 16 48 := h 16 40
  have h1 : data.extractLsb' 16 48 ++ payloadByte data 1 = data.extractLsb' 8 56 := h 8 48
  have h0 : data.extractLsb' 8 56 ++ payloadByte data 0 = data.extractLsb' 0 64 := h 0 56
  unfold payload64
  rw [h6, h5, h4, h3, h2, h1, h0]
  exact BitVec.extractLsb'_eq_self

/-- The bytes of an event are read as the event. -/
theorem decodeBytes_packEvent (kind : BitVec 3) (len : BitVec 4) (data : Payload) :
    decodeBytes .evt (packEvent kind len data) = .ok (decodeEvent ⟨kind, len, data⟩) := by
  simp only [packEvent, List.range_succ, List.range_zero, List.nil_append, List.cons_append,
    List.map, decodeBytes]
  have h1 : fitsPort 3 (kind.setWidth 8) = true := by revert kind; decide
  have h2 : fitsPort 4 (len.setWidth 8) = true := by revert len; decide
  have h3 : (kind.setWidth 8).setWidth 3 = kind := by revert kind; decide
  have h4 : (len.setWidth 8).setWidth 4 = len := by revert len; decide
  rw [h1, h2, h3, h4, payload64_payloadByte]
  rfl

end Sys2Proof
end

