-- ==== Sys2Proof/Laws/Memory.lean ====
section
/-!
SUPPORT. The laws of the byte memories: a read after a write, and that every operation keeps the
canonical form.
-/

namespace Sys2Proof.Machine

variable {fill : Nat → Byte}

/-! ## Reading after writing -/

theorem Memory.read_put (m : Memory) (a c : Nat) (b : Byte) :
    (m.put a b).read fill c = if c = a then b else m.read fill c := by
  induction m with
  | nil => simp [Memory.put, Memory.read]
  | cons kb m ih =>
    obtain ⟨k, v⟩ := kb
    simp only [Memory.put]
    split
    · simp [Memory.read]
    · split
      · subst_vars; simp only [Memory.read]; split <;> rfl
      · simp only [Memory.read, ih]; split <;> split <;> simp_all

theorem Memory.wfFrom_mono {size lo lo' : Nat} {m : Memory} (hm : m.wfFrom fill size lo = true)
    (h : lo' ≤ lo) : m.wfFrom fill size lo' = true := by
  cases m with
  | nil => rfl
  | cons kb m =>
    obtain ⟨k, v⟩ := kb
    simp only [Memory.wfFrom, Bool.and_eq_true, decide_eq_true_eq] at hm ⊢
    exact ⟨⟨⟨by omega, hm.1.1.2⟩, hm.1.2⟩, hm.2⟩

/-- Below its first listed address a canonical memory reads as unlisted. -/
theorem Memory.read_below {size lo a : Nat} {m : Memory} (hm : m.wfFrom fill size lo = true)
    (h : a < lo) : m.read fill a = fill a := by
  induction m generalizing lo with
  | nil => rfl
  | cons kb m ih =>
    obtain ⟨k, v⟩ := kb
    simp only [Memory.wfFrom, Bool.and_eq_true, decide_eq_true_eq] at hm
    have hk : a ≠ k := by omega
    simp only [Memory.read, if_neg hk]
    exact ih hm.2 (by omega)

theorem Memory.read_unlist {size lo : Nat} {m : Memory} (hm : m.wfFrom fill size lo = true)
    (a c : Nat) : (m.unlist a).read fill c = if c = a then fill a else m.read fill c := by
  induction m generalizing lo with
  | nil => simp only [Memory.unlist, Memory.read]; split <;> simp_all
  | cons kb m ih =>
    obtain ⟨k, v⟩ := kb
    simp only [Memory.wfFrom, Bool.and_eq_true, decide_eq_true_eq] at hm
    simp only [Memory.unlist]
    by_cases ha : a = k
    · subst ha
      simp only [if_pos, Memory.read]
      by_cases hc : c = a
      · subst hc; simpa using Memory.read_below hm.2 (Nat.lt_succ_self c)
      · simp [hc]
    · simp only [if_neg ha, Memory.read, ih hm.2]
      by_cases hc : c = k
      · subst hc; simp [Ne.symm ha]
      · simp [hc]

/-- A write sets the byte written and leaves every other byte. -/
theorem Memory.read_write {size : Nat} {m : Memory} (hm : m.wf fill size = true) (a c : Nat)
    (b : Byte) : (m.write fill a b).read fill c = if c = a then b else m.read fill c := by
  unfold Memory.write
  split
  · subst_vars; exact Memory.read_unlist hm a c
  · exact Memory.read_put m a c b

/-! ## The canonical form -/

theorem Memory.wfFrom_put {size lo a : Nat} {m : Memory} {b : Byte}
    (hm : m.wfFrom fill size lo = true) (hlo : lo ≤ a) (ha : a < size) (hb : b ≠ fill a) :
    (m.put a b).wfFrom fill size lo = true := by
  induction m generalizing lo with
  | nil => simp [Memory.put, Memory.wfFrom, hlo, ha, hb]
  | cons kb m ih =>
    obtain ⟨k, v⟩ := kb
    simp only [Memory.put]
    have h := hm
    simp only [Memory.wfFrom, Bool.and_eq_true, decide_eq_true_eq] at h
    split
    · simp only [Memory.wfFrom, Bool.and_eq_true, decide_eq_true_eq, bne_iff_ne]
      exact ⟨⟨⟨hlo, ha⟩, hb⟩, ⟨⟨⟨by omega, h.1.1.2⟩, by simpa using h.1.2⟩, h.2⟩⟩
    · split
      · subst_vars
        simp only [Memory.wfFrom, Bool.and_eq_true, decide_eq_true_eq, bne_iff_ne]
        exact ⟨⟨⟨hlo, ha⟩, hb⟩, h.2⟩
      · simp only [Memory.wfFrom, Bool.and_eq_true, decide_eq_true_eq]
        exact ⟨h.1, ih h.2 (by omega)⟩

theorem Memory.wfFrom_unlist {size lo a : Nat} {m : Memory} (hm : m.wfFrom fill size lo = true) :
    (m.unlist a).wfFrom fill size lo = true := by
  induction m generalizing lo with
  | nil => rfl
  | cons kb m ih =>
    obtain ⟨k, v⟩ := kb
    have h := hm
    simp only [Memory.wfFrom, Bool.and_eq_true, decide_eq_true_eq] at h
    simp only [Memory.unlist]
    split
    · exact Memory.wfFrom_mono h.2 (by omega)
    · simp only [Memory.wfFrom, Bool.and_eq_true, decide_eq_true_eq]
      exact ⟨h.1, ih h.2⟩

/-- A write inside the memory keeps its canonical form. -/
theorem Memory.wf_write {size a : Nat} {m : Memory} {b : Byte} (hm : m.wf fill size = true)
    (ha : a < size) : (m.write fill a b).wf fill size = true := by
  unfold Memory.write
  split
  · exact Memory.wfFrom_unlist hm
  · exact Memory.wfFrom_put hm (Nat.zero_le a) ha (by assumption)

/-- A write of several bytes inside the memory keeps its canonical form. -/
theorem Memory.wf_writeBytes {size a : Nat} {m : Memory} {bs : List Byte}
    (hm : m.wf fill size = true) (ha : a + bs.length ≤ size) :
    (m.writeBytes fill a bs).wf fill size = true := by
  induction bs generalizing m a with
  | nil => exact hm
  | cons b bs ih =>
    simp only [List.length_cons] at ha
    exact ih (Memory.wf_write hm (by omega)) (by omega)

/-- A write of several bytes sets them and leaves every other byte. -/
theorem Memory.read_writeBytes {size a : Nat} {m : Memory} {bs : List Byte}
    (hm : m.wf fill size = true) (ha : a + bs.length ≤ size) (c : Nat) :
    (m.writeBytes fill a bs).read fill c
      = if a ≤ c ∧ c < a + bs.length then bs.getD (c - a) 0 else m.read fill c := by
  induction bs generalizing m a with
  | nil => simp [Memory.writeBytes]
  | cons b bs ih =>
    simp only [List.length_cons] at ha
    simp only [Memory.writeBytes]
    rw [ih (Memory.wf_write hm (by omega)) (by omega), Memory.read_write hm]
    simp only [List.length_cons]
    by_cases h1 : a + 1 ≤ c ∧ c < a + 1 + bs.length
    · have h2 : a ≤ c ∧ c < a + (bs.length + 1) := by omega
      obtain ⟨d, rfl⟩ := Nat.exists_eq_add_of_le h1.1
      have e1 : a + 1 + d - (a + 1) = d := by omega
      have e2 : a + 1 + d - a = d + 1 := by omega
      rw [if_pos h1, if_pos h2, e1, e2, List.getD_cons_succ]
    · rw [if_neg h1]
      by_cases h3 : c = a
      · subst h3; simp
      · rw [if_neg h3, if_neg (by omega)]

/-- Two canonical memories that read alike are the same list. -/
theorem Memory.ext_of_wf {size lo : Nat} {m n : Memory} (hm : m.wfFrom fill size lo = true)
    (hn : n.wfFrom fill size lo = true) (h : ∀ a, m.read fill a = n.read fill a) : m = n := by
  induction m generalizing n lo with
  | nil =>
    cases n with
    | nil => rfl
    | cons kb n =>
      obtain ⟨k, v⟩ := kb
      simp only [Memory.wfFrom, Bool.and_eq_true, bne_iff_ne] at hn
      have := h k
      simp [Memory.read] at this
      exact absurd this.symm hn.1.2
  | cons kb m ih =>
    obtain ⟨k, v⟩ := kb
    have hm' := hm
    simp only [Memory.wfFrom, Bool.and_eq_true, decide_eq_true_eq, bne_iff_ne] at hm'
    cases n with
    | nil =>
      have := h k
      simp [Memory.read] at this
      exact absurd this hm'.1.2
    | cons kb' n =>
      obtain ⟨k', v'⟩ := kb'
      have hn' := hn
      simp only [Memory.wfFrom, Bool.and_eq_true, decide_eq_true_eq, bne_iff_ne] at hn'
      rcases Nat.lt_trichotomy k k' with hk | hk | hk
      · have := h k
        have hb : Memory.read fill n k = fill k := Memory.read_below hn'.2 (by omega)
        have hne : k ≠ k' := by omega
        simp [Memory.read, hne, hb] at this
        exact absurd this hm'.1.2
      · subst hk
        have hv : v = v' := by simpa [Memory.read] using h k
        subst hv
        have : m = n := by
          refine ih hm'.2 hn'.2 fun a => ?_
          by_cases ha : a = k
          · subst ha
            rw [Memory.read_below hm'.2 (Nat.lt_succ_self a),
              Memory.read_below hn'.2 (Nat.lt_succ_self a)]
          · simpa [Memory.read, ha] using h a
        rw [this]
      · have := h k'
        have hb : Memory.read fill m k' = fill k' := Memory.read_below hm'.2 (by omega)
        have hne : k' ≠ k := by omega
        simp [Memory.read, hne, hb] at this
        exact absurd this.symm hn'.1.2

/-- The memory with nothing listed is canonical. -/
@[simp] theorem Memory.wf_nil (size : Nat) : Memory.wf fill size [] = true := rfl

end Sys2Proof.Machine
end

