-- ==== Sys2Proof/Laws/State.lean ====
section
/-!
SUPPORT. Each update of the state, field by field: what it writes and what it leaves. All true by
unfolding one record update.
-/

namespace Sys2Proof.Machine

@[simp] theorem State.respond_lastReportedKey (s : State) (code : BitVec 2) :
    (s.respond code).lastReportedKey = s.lastReportedKey := rfl
@[simp] theorem State.respond_currentKey (s : State) (code : BitVec 2) :
    (s.respond code).currentKey = s.currentKey := rfl
@[simp] theorem State.respond_changed (s : State) (code : BitVec 2) :
    (s.respond code).changed = s.changed := rfl
@[simp] theorem State.respond_pendingEmptyFrameRequired (s : State) (code : BitVec 2) :
    (s.respond code).pendingEmptyFrameRequired = s.pendingEmptyFrameRequired := rfl
@[simp] theorem State.respond_phase (s : State) (code : BitVec 2) :
    (s.respond code).phase = s.phase := rfl
@[simp] theorem State.respond_rom (s : State) (code : BitVec 2) :
    (s.respond code).rom = s.rom := rfl
@[simp] theorem State.respond_inbuf (s : State) (code : BitVec 2) :
    (s.respond code).inbuf = s.inbuf := rfl
@[simp] theorem State.respond_rdbuf (s : State) (code : BitVec 2) :
    (s.respond code).rdbuf = s.rdbuf := rfl
@[simp] theorem State.respond_respCode (s : State) (code : BitVec 2) :
    (s.respond code).respCode = code := rfl
@[simp] theorem State.respond_respBase (s : State) (code : BitVec 2) :
    (s.respond code).respBase = s.respBase := rfl
@[simp] theorem State.respond_respLen (s : State) (code : BitVec 2) :
    (s.respond code).respLen = s.respLen := rfl
@[simp] theorem State.respond_rdLen (s : State) (code : BitVec 2) :
    (s.respond code).rdLen = s.rdLen := rfl
@[simp] theorem State.respond_rdData (s : State) (code : BitVec 2) :
    (s.respond code).rdData = s.rdData := rfl
@[simp] theorem State.respond_wrRet (s : State) (code : BitVec 2) :
    (s.respond code).wrRet = s.wrRet := rfl
@[simp] theorem State.respond_inSubmit (s : State) (code : BitVec 2) :
    (s.respond code).inSubmit = s.inSubmit := rfl
@[simp] theorem State.respond_inLen (s : State) (code : BitVec 2) :
    (s.respond code).inLen = s.inLen := rfl
@[simp] theorem State.respond_inData (s : State) (code : BitVec 2) :
    (s.respond code).inData = s.inData := rfl
@[simp] theorem State.respond_wdtKick (s : State) (code : BitVec 2) :
    (s.respond code).wdtKick = s.wdtKick := rfl
@[simp] theorem State.respond_ledN (s : State) (code : BitVec 2) :
    (s.respond code).ledN = s.ledN := rfl
@[simp] theorem State.respond_pins (s : State) (code : BitVec 2) :
    (s.respond code).pins = s.pins := rfl
@[simp] theorem State.respond_script (s : State) (code : BitVec 2) :
    (s.respond code).script = s.script := rfl
@[simp] theorem State.respond_clock (s : State) (code : BitVec 2) :
    (s.respond code).clock = s.clock := rfl
@[simp] theorem State.respond_slot (s : State) (code : BitVec 2) :
    (s.respond code).slot = s.slot := rfl

@[simp] theorem State.respondDescriptor_lastReportedKey (s : State) (base len : Nat) :
    (s.respondDescriptor base len).lastReportedKey = s.lastReportedKey := rfl
@[simp] theorem State.respondDescriptor_currentKey (s : State) (base len : Nat) :
    (s.respondDescriptor base len).currentKey = s.currentKey := rfl
@[simp] theorem State.respondDescriptor_changed (s : State) (base len : Nat) :
    (s.respondDescriptor base len).changed = s.changed := rfl
@[simp] theorem State.respondDescriptor_pendingEmptyFrameRequired (s : State) (base len : Nat) :
    (s.respondDescriptor base len).pendingEmptyFrameRequired = s.pendingEmptyFrameRequired := rfl
@[simp] theorem State.respondDescriptor_phase (s : State) (base len : Nat) :
    (s.respondDescriptor base len).phase = s.phase := rfl
@[simp] theorem State.respondDescriptor_rom (s : State) (base len : Nat) :
    (s.respondDescriptor base len).rom = s.rom := rfl
@[simp] theorem State.respondDescriptor_inbuf (s : State) (base len : Nat) :
    (s.respondDescriptor base len).inbuf = s.inbuf := rfl
@[simp] theorem State.respondDescriptor_rdbuf (s : State) (base len : Nat) :
    (s.respondDescriptor base len).rdbuf = s.rdbuf := rfl
@[simp] theorem State.respondDescriptor_respCode (s : State) (base len : Nat) :
    (s.respondDescriptor base len).respCode = descriptorCode := rfl
@[simp] theorem State.respondDescriptor_respBase (s : State) (base len : Nat) :
    (s.respondDescriptor base len).respBase = BitVec.ofNat 7 base := rfl
@[simp] theorem State.respondDescriptor_respLen (s : State) (base len : Nat) :
    (s.respondDescriptor base len).respLen = BitVec.ofNat 7 len := rfl
@[simp] theorem State.respondDescriptor_rdLen (s : State) (base len : Nat) :
    (s.respondDescriptor base len).rdLen = s.rdLen := rfl
@[simp] theorem State.respondDescriptor_rdData (s : State) (base len : Nat) :
    (s.respondDescriptor base len).rdData = s.rdData := rfl
@[simp] theorem State.respondDescriptor_wrRet (s : State) (base len : Nat) :
    (s.respondDescriptor base len).wrRet = s.wrRet := rfl
@[simp] theorem State.respondDescriptor_inSubmit (s : State) (base len : Nat) :
    (s.respondDescriptor base len).inSubmit = s.inSubmit := rfl
@[simp] theorem State.respondDescriptor_inLen (s : State) (base len : Nat) :
    (s.respondDescriptor base len).inLen = s.inLen := rfl
@[simp] theorem State.respondDescriptor_inData (s : State) (base len : Nat) :
    (s.respondDescriptor base len).inData = s.inData := rfl
@[simp] theorem State.respondDescriptor_wdtKick (s : State) (base len : Nat) :
    (s.respondDescriptor base len).wdtKick = s.wdtKick := rfl
@[simp] theorem State.respondDescriptor_ledN (s : State) (base len : Nat) :
    (s.respondDescriptor base len).ledN = s.ledN := rfl
@[simp] theorem State.respondDescriptor_pins (s : State) (base len : Nat) :
    (s.respondDescriptor base len).pins = s.pins := rfl
@[simp] theorem State.respondDescriptor_script (s : State) (base len : Nat) :
    (s.respondDescriptor base len).script = s.script := rfl
@[simp] theorem State.respondDescriptor_clock (s : State) (base len : Nat) :
    (s.respondDescriptor base len).clock = s.clock := rfl
@[simp] theorem State.respondDescriptor_slot (s : State) (base len : Nat) :
    (s.respondDescriptor base len).slot = s.slot := rfl

@[simp] theorem State.expectEmptyFrame_lastReportedKey (s : State) :
    s.expectEmptyFrame.lastReportedKey = s.lastReportedKey := rfl
@[simp] theorem State.expectEmptyFrame_currentKey (s : State) :
    s.expectEmptyFrame.currentKey = s.currentKey := rfl
@[simp] theorem State.expectEmptyFrame_changed (s : State) :
    s.expectEmptyFrame.changed = s.changed := rfl
@[simp] theorem State.expectEmptyFrame_pendingEmptyFrameRequired (s : State) :
    s.expectEmptyFrame.pendingEmptyFrameRequired = true := rfl
@[simp] theorem State.expectEmptyFrame_phase (s : State) : s.expectEmptyFrame.phase = s.phase := rfl
@[simp] theorem State.expectEmptyFrame_rom (s : State) : s.expectEmptyFrame.rom = s.rom := rfl
@[simp] theorem State.expectEmptyFrame_inbuf (s : State) : s.expectEmptyFrame.inbuf = s.inbuf := rfl
@[simp] theorem State.expectEmptyFrame_rdbuf (s : State) : s.expectEmptyFrame.rdbuf = s.rdbuf := rfl
@[simp] theorem State.expectEmptyFrame_respCode (s : State) :
    s.expectEmptyFrame.respCode = s.respCode := rfl
@[simp] theorem State.expectEmptyFrame_respBase (s : State) :
    s.expectEmptyFrame.respBase = s.respBase := rfl
@[simp] theorem State.expectEmptyFrame_respLen (s : State) :
    s.expectEmptyFrame.respLen = s.respLen := rfl
@[simp] theorem State.expectEmptyFrame_rdLen (s : State) : s.expectEmptyFrame.rdLen = s.rdLen := rfl
@[simp] theorem State.expectEmptyFrame_rdData (s : State) :
    s.expectEmptyFrame.rdData = s.rdData := rfl
@[simp] theorem State.expectEmptyFrame_wrRet (s : State) : s.expectEmptyFrame.wrRet = s.wrRet := rfl
@[simp] theorem State.expectEmptyFrame_inSubmit (s : State) :
    s.expectEmptyFrame.inSubmit = s.inSubmit := rfl
@[simp] theorem State.expectEmptyFrame_inLen (s : State) : s.expectEmptyFrame.inLen = s.inLen := rfl
@[simp] theorem State.expectEmptyFrame_inData (s : State) :
    s.expectEmptyFrame.inData = s.inData := rfl
@[simp] theorem State.expectEmptyFrame_wdtKick (s : State) :
    s.expectEmptyFrame.wdtKick = s.wdtKick := rfl
@[simp] theorem State.expectEmptyFrame_ledN (s : State) : s.expectEmptyFrame.ledN = s.ledN := rfl
@[simp] theorem State.expectEmptyFrame_pins (s : State) : s.expectEmptyFrame.pins = s.pins := rfl
@[simp] theorem State.expectEmptyFrame_script (s : State) :
    s.expectEmptyFrame.script = s.script := rfl
@[simp] theorem State.expectEmptyFrame_clock (s : State) : s.expectEmptyFrame.clock = s.clock := rfl
@[simp] theorem State.expectEmptyFrame_slot (s : State) : s.expectEmptyFrame.slot = s.slot := rfl

@[simp] theorem State.fillRdbuf_lastReportedKey (s : State) :
    s.fillRdbuf.lastReportedKey = s.lastReportedKey := rfl
@[simp] theorem State.fillRdbuf_currentKey (s : State) :
    s.fillRdbuf.currentKey = s.currentKey := rfl
@[simp] theorem State.fillRdbuf_changed (s : State) : s.fillRdbuf.changed = s.changed := rfl
@[simp] theorem State.fillRdbuf_pendingEmptyFrameRequired (s : State) :
    s.fillRdbuf.pendingEmptyFrameRequired = s.pendingEmptyFrameRequired := rfl
@[simp] theorem State.fillRdbuf_phase (s : State) : s.fillRdbuf.phase = s.phase := rfl
@[simp] theorem State.fillRdbuf_rom (s : State) : s.fillRdbuf.rom = s.rom := rfl
@[simp] theorem State.fillRdbuf_inbuf (s : State) : s.fillRdbuf.inbuf = s.inbuf := rfl
@[simp] theorem State.fillRdbuf_rdbuf (s : State) :
    s.fillRdbuf.rdbuf = s.rdbuf.writeBytes bufferFill 0 (List.replicate ctrlReadLen 0) := rfl
@[simp] theorem State.fillRdbuf_respCode (s : State) : s.fillRdbuf.respCode = s.respCode := rfl
@[simp] theorem State.fillRdbuf_respBase (s : State) : s.fillRdbuf.respBase = s.respBase := rfl
@[simp] theorem State.fillRdbuf_respLen (s : State) : s.fillRdbuf.respLen = s.respLen := rfl
@[simp] theorem State.fillRdbuf_rdLen (s : State) : s.fillRdbuf.rdLen = s.rdLen := rfl
@[simp] theorem State.fillRdbuf_rdData (s : State) : s.fillRdbuf.rdData = s.rdData := rfl
@[simp] theorem State.fillRdbuf_wrRet (s : State) : s.fillRdbuf.wrRet = s.wrRet := rfl
@[simp] theorem State.fillRdbuf_inSubmit (s : State) : s.fillRdbuf.inSubmit = s.inSubmit := rfl
@[simp] theorem State.fillRdbuf_inLen (s : State) : s.fillRdbuf.inLen = s.inLen := rfl
@[simp] theorem State.fillRdbuf_inData (s : State) : s.fillRdbuf.inData = s.inData := rfl
@[simp] theorem State.fillRdbuf_wdtKick (s : State) : s.fillRdbuf.wdtKick = s.wdtKick := rfl
@[simp] theorem State.fillRdbuf_ledN (s : State) : s.fillRdbuf.ledN = s.ledN := rfl
@[simp] theorem State.fillRdbuf_pins (s : State) : s.fillRdbuf.pins = s.pins := rfl
@[simp] theorem State.fillRdbuf_script (s : State) : s.fillRdbuf.script = s.script := rfl
@[simp] theorem State.fillRdbuf_clock (s : State) : s.fillRdbuf.clock = s.clock := rfl
@[simp] theorem State.fillRdbuf_slot (s : State) : s.fillRdbuf.slot = s.slot := rfl

@[simp] theorem State.answerRead_lastReportedKey (s : State) (maxLen : BitVec 4) :
    (s.answerRead maxLen).lastReportedKey = s.lastReportedKey := rfl
@[simp] theorem State.answerRead_currentKey (s : State) (maxLen : BitVec 4) :
    (s.answerRead maxLen).currentKey = s.currentKey := rfl
@[simp] theorem State.answerRead_changed (s : State) (maxLen : BitVec 4) :
    (s.answerRead maxLen).changed = s.changed := rfl
@[simp] theorem State.answerRead_pendingEmptyFrameRequired (s : State) (maxLen : BitVec 4) :
    (s.answerRead maxLen).pendingEmptyFrameRequired = s.pendingEmptyFrameRequired := rfl
@[simp] theorem State.answerRead_phase (s : State) (maxLen : BitVec 4) :
    (s.answerRead maxLen).phase = s.phase := rfl
@[simp] theorem State.answerRead_rom (s : State) (maxLen : BitVec 4) :
    (s.answerRead maxLen).rom = s.rom := rfl
@[simp] theorem State.answerRead_inbuf (s : State) (maxLen : BitVec 4) :
    (s.answerRead maxLen).inbuf = s.inbuf := rfl
@[simp] theorem State.answerRead_rdbuf (s : State) (maxLen : BitVec 4) :
    (s.answerRead maxLen).rdbuf = s.rdbuf := rfl
@[simp] theorem State.answerRead_respCode (s : State) (maxLen : BitVec 4) :
    (s.answerRead maxLen).respCode = s.respCode := rfl
@[simp] theorem State.answerRead_respBase (s : State) (maxLen : BitVec 4) :
    (s.answerRead maxLen).respBase = s.respBase := rfl
@[simp] theorem State.answerRead_respLen (s : State) (maxLen : BitVec 4) :
    (s.answerRead maxLen).respLen = s.respLen := rfl
@[simp] theorem State.answerRead_rdLen (s : State) (maxLen : BitVec 4) :
    (s.answerRead maxLen).rdLen = readLen maxLen := rfl
@[simp] theorem State.answerRead_rdData (s : State) (maxLen : BitVec 4) :
    (s.answerRead maxLen).rdData = gather (s.rdbuf.readBytes bufferFill 0 ctrlReadLen) := rfl
@[simp] theorem State.answerRead_wrRet (s : State) (maxLen : BitVec 4) :
    (s.answerRead maxLen).wrRet = s.wrRet := rfl
@[simp] theorem State.answerRead_inSubmit (s : State) (maxLen : BitVec 4) :
    (s.answerRead maxLen).inSubmit = s.inSubmit := rfl
@[simp] theorem State.answerRead_inLen (s : State) (maxLen : BitVec 4) :
    (s.answerRead maxLen).inLen = s.inLen := rfl
@[simp] theorem State.answerRead_inData (s : State) (maxLen : BitVec 4) :
    (s.answerRead maxLen).inData = s.inData := rfl
@[simp] theorem State.answerRead_wdtKick (s : State) (maxLen : BitVec 4) :
    (s.answerRead maxLen).wdtKick = s.wdtKick := rfl
@[simp] theorem State.answerRead_ledN (s : State) (maxLen : BitVec 4) :
    (s.answerRead maxLen).ledN = s.ledN := rfl
@[simp] theorem State.answerRead_pins (s : State) (maxLen : BitVec 4) :
    (s.answerRead maxLen).pins = s.pins := rfl
@[simp] theorem State.answerRead_script (s : State) (maxLen : BitVec 4) :
    (s.answerRead maxLen).script = s.script := rfl
@[simp] theorem State.answerRead_clock (s : State) (maxLen : BitVec 4) :
    (s.answerRead maxLen).clock = s.clock := rfl
@[simp] theorem State.answerRead_slot (s : State) (maxLen : BitVec 4) :
    (s.answerRead maxLen).slot = s.slot := rfl

@[simp] theorem State.answerWrite_lastReportedKey (s : State) :
    s.answerWrite.lastReportedKey = s.lastReportedKey := rfl
@[simp] theorem State.answerWrite_currentKey (s : State) :
    s.answerWrite.currentKey = s.currentKey := rfl
@[simp] theorem State.answerWrite_changed (s : State) : s.answerWrite.changed = s.changed := rfl
@[simp] theorem State.answerWrite_pendingEmptyFrameRequired (s : State) :
    s.answerWrite.pendingEmptyFrameRequired = s.pendingEmptyFrameRequired := rfl
@[simp] theorem State.answerWrite_phase (s : State) : s.answerWrite.phase = s.phase := rfl
@[simp] theorem State.answerWrite_rom (s : State) : s.answerWrite.rom = s.rom := rfl
@[simp] theorem State.answerWrite_inbuf (s : State) : s.answerWrite.inbuf = s.inbuf := rfl
@[simp] theorem State.answerWrite_rdbuf (s : State) : s.answerWrite.rdbuf = s.rdbuf := rfl
@[simp] theorem State.answerWrite_respCode (s : State) : s.answerWrite.respCode = s.respCode := rfl
@[simp] theorem State.answerWrite_respBase (s : State) : s.answerWrite.respBase = s.respBase := rfl
@[simp] theorem State.answerWrite_respLen (s : State) : s.answerWrite.respLen = s.respLen := rfl
@[simp] theorem State.answerWrite_rdLen (s : State) : s.answerWrite.rdLen = s.rdLen := rfl
@[simp] theorem State.answerWrite_rdData (s : State) : s.answerWrite.rdData = s.rdData := rfl
@[simp] theorem State.answerWrite_wrRet (s : State) : s.answerWrite.wrRet = ctrlWriteRet := rfl
@[simp] theorem State.answerWrite_inSubmit (s : State) : s.answerWrite.inSubmit = s.inSubmit := rfl
@[simp] theorem State.answerWrite_inLen (s : State) : s.answerWrite.inLen = s.inLen := rfl
@[simp] theorem State.answerWrite_inData (s : State) : s.answerWrite.inData = s.inData := rfl
@[simp] theorem State.answerWrite_wdtKick (s : State) : s.answerWrite.wdtKick = s.wdtKick := rfl
@[simp] theorem State.answerWrite_ledN (s : State) : s.answerWrite.ledN = s.ledN := rfl
@[simp] theorem State.answerWrite_pins (s : State) : s.answerWrite.pins = s.pins := rfl
@[simp] theorem State.answerWrite_script (s : State) : s.answerWrite.script = s.script := rfl
@[simp] theorem State.answerWrite_clock (s : State) : s.answerWrite.clock = s.clock := rfl
@[simp] theorem State.answerWrite_slot (s : State) : s.answerWrite.slot = s.slot := rfl

@[simp] theorem State.setCurrentKey_lastReportedKey (s : State) (note : Byte) :
    (s.setCurrentKey note).lastReportedKey = s.lastReportedKey := rfl
@[simp] theorem State.setCurrentKey_currentKey (s : State) (note : Byte) :
    (s.setCurrentKey note).currentKey = note := rfl
@[simp] theorem State.setCurrentKey_changed (s : State) (note : Byte) :
    (s.setCurrentKey note).changed = s.changed := rfl
@[simp] theorem State.setCurrentKey_pendingEmptyFrameRequired (s : State) (note : Byte) :
    (s.setCurrentKey note).pendingEmptyFrameRequired = s.pendingEmptyFrameRequired := rfl
@[simp] theorem State.setCurrentKey_phase (s : State) (note : Byte) :
    (s.setCurrentKey note).phase = s.phase := rfl
@[simp] theorem State.setCurrentKey_rom (s : State) (note : Byte) :
    (s.setCurrentKey note).rom = s.rom := rfl
@[simp] theorem State.setCurrentKey_inbuf (s : State) (note : Byte) :
    (s.setCurrentKey note).inbuf = s.inbuf := rfl
@[simp] theorem State.setCurrentKey_rdbuf (s : State) (note : Byte) :
    (s.setCurrentKey note).rdbuf = s.rdbuf := rfl
@[simp] theorem State.setCurrentKey_respCode (s : State) (note : Byte) :
    (s.setCurrentKey note).respCode = s.respCode := rfl
@[simp] theorem State.setCurrentKey_respBase (s : State) (note : Byte) :
    (s.setCurrentKey note).respBase = s.respBase := rfl
@[simp] theorem State.setCurrentKey_respLen (s : State) (note : Byte) :
    (s.setCurrentKey note).respLen = s.respLen := rfl
@[simp] theorem State.setCurrentKey_rdLen (s : State) (note : Byte) :
    (s.setCurrentKey note).rdLen = s.rdLen := rfl
@[simp] theorem State.setCurrentKey_rdData (s : State) (note : Byte) :
    (s.setCurrentKey note).rdData = s.rdData := rfl
@[simp] theorem State.setCurrentKey_wrRet (s : State) (note : Byte) :
    (s.setCurrentKey note).wrRet = s.wrRet := rfl
@[simp] theorem State.setCurrentKey_inSubmit (s : State) (note : Byte) :
    (s.setCurrentKey note).inSubmit = s.inSubmit := rfl
@[simp] theorem State.setCurrentKey_inLen (s : State) (note : Byte) :
    (s.setCurrentKey note).inLen = s.inLen := rfl
@[simp] theorem State.setCurrentKey_inData (s : State) (note : Byte) :
    (s.setCurrentKey note).inData = s.inData := rfl
@[simp] theorem State.setCurrentKey_wdtKick (s : State) (note : Byte) :
    (s.setCurrentKey note).wdtKick = s.wdtKick := rfl
@[simp] theorem State.setCurrentKey_ledN (s : State) (note : Byte) :
    (s.setCurrentKey note).ledN = s.ledN := rfl
@[simp] theorem State.setCurrentKey_pins (s : State) (note : Byte) :
    (s.setCurrentKey note).pins = s.pins := rfl
@[simp] theorem State.setCurrentKey_script (s : State) (note : Byte) :
    (s.setCurrentKey note).script = s.script := rfl
@[simp] theorem State.setCurrentKey_clock (s : State) (note : Byte) :
    (s.setCurrentKey note).clock = s.clock := rfl
@[simp] theorem State.setCurrentKey_slot (s : State) (note : Byte) :
    (s.setCurrentKey note).slot = s.slot := rfl

@[simp] theorem State.detectEdge_lastReportedKey (s : State) :
    s.detectEdge.lastReportedKey = s.lastReportedKey := rfl
@[simp] theorem State.detectEdge_currentKey (s : State) :
    s.detectEdge.currentKey = s.currentKey := rfl
@[simp] theorem State.detectEdge_changed (s : State) :
    s.detectEdge.changed = (s.changed || s.currentKey != s.lastReportedKey) := rfl
@[simp] theorem State.detectEdge_pendingEmptyFrameRequired (s : State) :
    s.detectEdge.pendingEmptyFrameRequired = s.pendingEmptyFrameRequired := rfl
@[simp] theorem State.detectEdge_phase (s : State) : s.detectEdge.phase = s.phase := rfl
@[simp] theorem State.detectEdge_rom (s : State) : s.detectEdge.rom = s.rom := rfl
@[simp] theorem State.detectEdge_inbuf (s : State) : s.detectEdge.inbuf = s.inbuf := rfl
@[simp] theorem State.detectEdge_rdbuf (s : State) : s.detectEdge.rdbuf = s.rdbuf := rfl
@[simp] theorem State.detectEdge_respCode (s : State) : s.detectEdge.respCode = s.respCode := rfl
@[simp] theorem State.detectEdge_respBase (s : State) : s.detectEdge.respBase = s.respBase := rfl
@[simp] theorem State.detectEdge_respLen (s : State) : s.detectEdge.respLen = s.respLen := rfl
@[simp] theorem State.detectEdge_rdLen (s : State) : s.detectEdge.rdLen = s.rdLen := rfl
@[simp] theorem State.detectEdge_rdData (s : State) : s.detectEdge.rdData = s.rdData := rfl
@[simp] theorem State.detectEdge_wrRet (s : State) : s.detectEdge.wrRet = s.wrRet := rfl
@[simp] theorem State.detectEdge_inSubmit (s : State) : s.detectEdge.inSubmit = s.inSubmit := rfl
@[simp] theorem State.detectEdge_inLen (s : State) : s.detectEdge.inLen = s.inLen := rfl
@[simp] theorem State.detectEdge_inData (s : State) : s.detectEdge.inData = s.inData := rfl
@[simp] theorem State.detectEdge_wdtKick (s : State) : s.detectEdge.wdtKick = s.wdtKick := rfl
@[simp] theorem State.detectEdge_ledN (s : State) : s.detectEdge.ledN = s.ledN := rfl
@[simp] theorem State.detectEdge_pins (s : State) : s.detectEdge.pins = s.pins := rfl
@[simp] theorem State.detectEdge_script (s : State) : s.detectEdge.script = s.script := rfl
@[simp] theorem State.detectEdge_clock (s : State) : s.detectEdge.clock = s.clock := rfl
@[simp] theorem State.detectEdge_slot (s : State) : s.detectEdge.slot = s.slot := rfl

@[simp] theorem State.stagePacket_lastReportedKey (s : State) (p : Nat) (pkt : Packet) :
    (s.stagePacket p pkt).lastReportedKey = s.lastReportedKey := rfl
@[simp] theorem State.stagePacket_currentKey (s : State) (p : Nat) (pkt : Packet) :
    (s.stagePacket p pkt).currentKey = s.currentKey := rfl
@[simp] theorem State.stagePacket_changed (s : State) (p : Nat) (pkt : Packet) :
    (s.stagePacket p pkt).changed = s.changed := rfl
@[simp] theorem State.stagePacket_pendingEmptyFrameRequired (s : State) (p : Nat) (pkt : Packet) :
    (s.stagePacket p pkt).pendingEmptyFrameRequired = s.pendingEmptyFrameRequired := rfl
@[simp] theorem State.stagePacket_phase (s : State) (p : Nat) (pkt : Packet) :
    (s.stagePacket p pkt).phase = s.phase := rfl
@[simp] theorem State.stagePacket_rom (s : State) (p : Nat) (pkt : Packet) :
    (s.stagePacket p pkt).rom = s.rom := rfl
@[simp] theorem State.stagePacket_inbuf (s : State) (p : Nat) (pkt : Packet) :
    (s.stagePacket p pkt).inbuf = s.inbuf.writeBytes bufferFill (packetOffset p) (packetBytes pkt) := rfl
@[simp] theorem State.stagePacket_rdbuf (s : State) (p : Nat) (pkt : Packet) :
    (s.stagePacket p pkt).rdbuf = s.rdbuf := rfl
@[simp] theorem State.stagePacket_respCode (s : State) (p : Nat) (pkt : Packet) :
    (s.stagePacket p pkt).respCode = s.respCode := rfl
@[simp] theorem State.stagePacket_respBase (s : State) (p : Nat) (pkt : Packet) :
    (s.stagePacket p pkt).respBase = s.respBase := rfl
@[simp] theorem State.stagePacket_respLen (s : State) (p : Nat) (pkt : Packet) :
    (s.stagePacket p pkt).respLen = s.respLen := rfl
@[simp] theorem State.stagePacket_rdLen (s : State) (p : Nat) (pkt : Packet) :
    (s.stagePacket p pkt).rdLen = s.rdLen := rfl
@[simp] theorem State.stagePacket_rdData (s : State) (p : Nat) (pkt : Packet) :
    (s.stagePacket p pkt).rdData = s.rdData := rfl
@[simp] theorem State.stagePacket_wrRet (s : State) (p : Nat) (pkt : Packet) :
    (s.stagePacket p pkt).wrRet = s.wrRet := rfl
@[simp] theorem State.stagePacket_inSubmit (s : State) (p : Nat) (pkt : Packet) :
    (s.stagePacket p pkt).inSubmit = s.inSubmit := rfl
@[simp] theorem State.stagePacket_inLen (s : State) (p : Nat) (pkt : Packet) :
    (s.stagePacket p pkt).inLen = s.inLen := rfl
@[simp] theorem State.stagePacket_inData (s : State) (p : Nat) (pkt : Packet) :
    (s.stagePacket p pkt).inData = s.inData := rfl
@[simp] theorem State.stagePacket_wdtKick (s : State) (p : Nat) (pkt : Packet) :
    (s.stagePacket p pkt).wdtKick = s.wdtKick := rfl
@[simp] theorem State.stagePacket_ledN (s : State) (p : Nat) (pkt : Packet) :
    (s.stagePacket p pkt).ledN = s.ledN := rfl
@[simp] theorem State.stagePacket_pins (s : State) (p : Nat) (pkt : Packet) :
    (s.stagePacket p pkt).pins = s.pins := rfl
@[simp] theorem State.stagePacket_script (s : State) (p : Nat) (pkt : Packet) :
    (s.stagePacket p pkt).script = s.script := rfl
@[simp] theorem State.stagePacket_clock (s : State) (p : Nat) (pkt : Packet) :
    (s.stagePacket p pkt).clock = s.clock := rfl
@[simp] theorem State.stagePacket_slot (s : State) (p : Nat) (pkt : Packet) :
    (s.stagePacket p pkt).slot = s.slot := rfl

@[simp] theorem State.assignEmptyFrame_lastReportedKey (s : State) (n : Nat) :
    (s.assignEmptyFrame n).lastReportedKey = s.lastReportedKey := rfl
@[simp] theorem State.assignEmptyFrame_currentKey (s : State) (n : Nat) :
    (s.assignEmptyFrame n).currentKey = s.currentKey := rfl
@[simp] theorem State.assignEmptyFrame_changed (s : State) (n : Nat) :
    (s.assignEmptyFrame n).changed = s.changed := rfl
@[simp] theorem State.assignEmptyFrame_pendingEmptyFrameRequired (s : State) (n : Nat) :
    (s.assignEmptyFrame n).pendingEmptyFrameRequired = (n == 8) := rfl
@[simp] theorem State.assignEmptyFrame_phase (s : State) (n : Nat) :
    (s.assignEmptyFrame n).phase = s.phase := rfl
@[simp] theorem State.assignEmptyFrame_rom (s : State) (n : Nat) :
    (s.assignEmptyFrame n).rom = s.rom := rfl
@[simp] theorem State.assignEmptyFrame_inbuf (s : State) (n : Nat) :
    (s.assignEmptyFrame n).inbuf = s.inbuf := rfl
@[simp] theorem State.assignEmptyFrame_rdbuf (s : State) (n : Nat) :
    (s.assignEmptyFrame n).rdbuf = s.rdbuf := rfl
@[simp] theorem State.assignEmptyFrame_respCode (s : State) (n : Nat) :
    (s.assignEmptyFrame n).respCode = s.respCode := rfl
@[simp] theorem State.assignEmptyFrame_respBase (s : State) (n : Nat) :
    (s.assignEmptyFrame n).respBase = s.respBase := rfl
@[simp] theorem State.assignEmptyFrame_respLen (s : State) (n : Nat) :
    (s.assignEmptyFrame n).respLen = s.respLen := rfl
@[simp] theorem State.assignEmptyFrame_rdLen (s : State) (n : Nat) :
    (s.assignEmptyFrame n).rdLen = s.rdLen := rfl
@[simp] theorem State.assignEmptyFrame_rdData (s : State) (n : Nat) :
    (s.assignEmptyFrame n).rdData = s.rdData := rfl
@[simp] theorem State.assignEmptyFrame_wrRet (s : State) (n : Nat) :
    (s.assignEmptyFrame n).wrRet = s.wrRet := rfl
@[simp] theorem State.assignEmptyFrame_inSubmit (s : State) (n : Nat) :
    (s.assignEmptyFrame n).inSubmit = s.inSubmit := rfl
@[simp] theorem State.assignEmptyFrame_inLen (s : State) (n : Nat) :
    (s.assignEmptyFrame n).inLen = s.inLen := rfl
@[simp] theorem State.assignEmptyFrame_inData (s : State) (n : Nat) :
    (s.assignEmptyFrame n).inData = s.inData := rfl
@[simp] theorem State.assignEmptyFrame_wdtKick (s : State) (n : Nat) :
    (s.assignEmptyFrame n).wdtKick = s.wdtKick := rfl
@[simp] theorem State.assignEmptyFrame_ledN (s : State) (n : Nat) :
    (s.assignEmptyFrame n).ledN = s.ledN := rfl
@[simp] theorem State.assignEmptyFrame_pins (s : State) (n : Nat) :
    (s.assignEmptyFrame n).pins = s.pins := rfl
@[simp] theorem State.assignEmptyFrame_script (s : State) (n : Nat) :
    (s.assignEmptyFrame n).script = s.script := rfl
@[simp] theorem State.assignEmptyFrame_clock (s : State) (n : Nat) :
    (s.assignEmptyFrame n).clock = s.clock := rfl
@[simp] theorem State.assignEmptyFrame_slot (s : State) (n : Nat) :
    (s.assignEmptyFrame n).slot = s.slot := rfl

@[simp] theorem State.completeFrame_lastReportedKey (s : State) :
    s.completeFrame.lastReportedKey = s.currentKey := rfl
@[simp] theorem State.completeFrame_currentKey (s : State) :
    s.completeFrame.currentKey = s.currentKey := rfl
@[simp] theorem State.completeFrame_changed (s : State) : s.completeFrame.changed = false := rfl
@[simp] theorem State.completeFrame_pendingEmptyFrameRequired (s : State) :
    s.completeFrame.pendingEmptyFrameRequired = s.pendingEmptyFrameRequired := rfl
@[simp] theorem State.completeFrame_phase (s : State) : s.completeFrame.phase = s.phase := rfl
@[simp] theorem State.completeFrame_rom (s : State) : s.completeFrame.rom = s.rom := rfl
@[simp] theorem State.completeFrame_inbuf (s : State) : s.completeFrame.inbuf = s.inbuf := rfl
@[simp] theorem State.completeFrame_rdbuf (s : State) : s.completeFrame.rdbuf = s.rdbuf := rfl
@[simp] theorem State.completeFrame_respCode (s : State) :
    s.completeFrame.respCode = s.respCode := rfl
@[simp] theorem State.completeFrame_respBase (s : State) :
    s.completeFrame.respBase = s.respBase := rfl
@[simp] theorem State.completeFrame_respLen (s : State) : s.completeFrame.respLen = s.respLen := rfl
@[simp] theorem State.completeFrame_rdLen (s : State) : s.completeFrame.rdLen = s.rdLen := rfl
@[simp] theorem State.completeFrame_rdData (s : State) : s.completeFrame.rdData = s.rdData := rfl
@[simp] theorem State.completeFrame_wrRet (s : State) : s.completeFrame.wrRet = s.wrRet := rfl
@[simp] theorem State.completeFrame_inSubmit (s : State) :
    s.completeFrame.inSubmit = s.inSubmit := rfl
@[simp] theorem State.completeFrame_inLen (s : State) : s.completeFrame.inLen = s.inLen := rfl
@[simp] theorem State.completeFrame_inData (s : State) : s.completeFrame.inData = s.inData := rfl
@[simp] theorem State.completeFrame_wdtKick (s : State) : s.completeFrame.wdtKick = s.wdtKick := rfl
@[simp] theorem State.completeFrame_ledN (s : State) : s.completeFrame.ledN = s.ledN := rfl
@[simp] theorem State.completeFrame_pins (s : State) : s.completeFrame.pins = s.pins := rfl
@[simp] theorem State.completeFrame_script (s : State) : s.completeFrame.script = s.script := rfl
@[simp] theorem State.completeFrame_clock (s : State) : s.completeFrame.clock = s.clock := rfl
@[simp] theorem State.completeFrame_slot (s : State) : s.completeFrame.slot = s.slot := rfl

@[simp] theorem State.setPhase_lastReportedKey (s : State) (p : Phase) :
    (s.setPhase p).lastReportedKey = s.lastReportedKey := rfl
@[simp] theorem State.setPhase_currentKey (s : State) (p : Phase) :
    (s.setPhase p).currentKey = s.currentKey := rfl
@[simp] theorem State.setPhase_changed (s : State) (p : Phase) :
    (s.setPhase p).changed = s.changed := rfl
@[simp] theorem State.setPhase_pendingEmptyFrameRequired (s : State) (p : Phase) :
    (s.setPhase p).pendingEmptyFrameRequired = s.pendingEmptyFrameRequired := rfl
@[simp] theorem State.setPhase_phase (s : State) (p : Phase) : (s.setPhase p).phase = p := rfl
@[simp] theorem State.setPhase_rom (s : State) (p : Phase) : (s.setPhase p).rom = s.rom := rfl
@[simp] theorem State.setPhase_inbuf (s : State) (p : Phase) : (s.setPhase p).inbuf = s.inbuf := rfl
@[simp] theorem State.setPhase_rdbuf (s : State) (p : Phase) : (s.setPhase p).rdbuf = s.rdbuf := rfl
@[simp] theorem State.setPhase_respCode (s : State) (p : Phase) :
    (s.setPhase p).respCode = s.respCode := rfl
@[simp] theorem State.setPhase_respBase (s : State) (p : Phase) :
    (s.setPhase p).respBase = s.respBase := rfl
@[simp] theorem State.setPhase_respLen (s : State) (p : Phase) :
    (s.setPhase p).respLen = s.respLen := rfl
@[simp] theorem State.setPhase_rdLen (s : State) (p : Phase) : (s.setPhase p).rdLen = s.rdLen := rfl
@[simp] theorem State.setPhase_rdData (s : State) (p : Phase) :
    (s.setPhase p).rdData = s.rdData := rfl
@[simp] theorem State.setPhase_wrRet (s : State) (p : Phase) : (s.setPhase p).wrRet = s.wrRet := rfl
@[simp] theorem State.setPhase_inSubmit (s : State) (p : Phase) :
    (s.setPhase p).inSubmit = s.inSubmit := rfl
@[simp] theorem State.setPhase_inLen (s : State) (p : Phase) : (s.setPhase p).inLen = s.inLen := rfl
@[simp] theorem State.setPhase_inData (s : State) (p : Phase) :
    (s.setPhase p).inData = s.inData := rfl
@[simp] theorem State.setPhase_wdtKick (s : State) (p : Phase) :
    (s.setPhase p).wdtKick = s.wdtKick := rfl
@[simp] theorem State.setPhase_ledN (s : State) (p : Phase) : (s.setPhase p).ledN = s.ledN := rfl
@[simp] theorem State.setPhase_pins (s : State) (p : Phase) : (s.setPhase p).pins = s.pins := rfl
@[simp] theorem State.setPhase_script (s : State) (p : Phase) :
    (s.setPhase p).script = s.script := rfl
@[simp] theorem State.setPhase_clock (s : State) (p : Phase) : (s.setPhase p).clock = s.clock := rfl
@[simp] theorem State.setPhase_slot (s : State) (p : Phase) : (s.setPhase p).slot = s.slot := rfl

@[simp] theorem State.kickWatchdog_lastReportedKey (s : State) :
    s.kickWatchdog.lastReportedKey = s.lastReportedKey := rfl
@[simp] theorem State.kickWatchdog_currentKey (s : State) :
    s.kickWatchdog.currentKey = s.currentKey := rfl
@[simp] theorem State.kickWatchdog_changed (s : State) : s.kickWatchdog.changed = s.changed := rfl
@[simp] theorem State.kickWatchdog_pendingEmptyFrameRequired (s : State) :
    s.kickWatchdog.pendingEmptyFrameRequired = s.pendingEmptyFrameRequired := rfl
@[simp] theorem State.kickWatchdog_phase (s : State) : s.kickWatchdog.phase = s.phase := rfl
@[simp] theorem State.kickWatchdog_rom (s : State) : s.kickWatchdog.rom = s.rom := rfl
@[simp] theorem State.kickWatchdog_inbuf (s : State) : s.kickWatchdog.inbuf = s.inbuf := rfl
@[simp] theorem State.kickWatchdog_rdbuf (s : State) : s.kickWatchdog.rdbuf = s.rdbuf := rfl
@[simp] theorem State.kickWatchdog_respCode (s : State) :
    s.kickWatchdog.respCode = s.respCode := rfl
@[simp] theorem State.kickWatchdog_respBase (s : State) :
    s.kickWatchdog.respBase = s.respBase := rfl
@[simp] theorem State.kickWatchdog_respLen (s : State) : s.kickWatchdog.respLen = s.respLen := rfl
@[simp] theorem State.kickWatchdog_rdLen (s : State) : s.kickWatchdog.rdLen = s.rdLen := rfl
@[simp] theorem State.kickWatchdog_rdData (s : State) : s.kickWatchdog.rdData = s.rdData := rfl
@[simp] theorem State.kickWatchdog_wrRet (s : State) : s.kickWatchdog.wrRet = s.wrRet := rfl
@[simp] theorem State.kickWatchdog_inSubmit (s : State) :
    s.kickWatchdog.inSubmit = s.inSubmit := rfl
@[simp] theorem State.kickWatchdog_inLen (s : State) : s.kickWatchdog.inLen = s.inLen := rfl
@[simp] theorem State.kickWatchdog_inData (s : State) : s.kickWatchdog.inData = s.inData := rfl
@[simp] theorem State.kickWatchdog_wdtKick (s : State) : s.kickWatchdog.wdtKick = true := rfl
@[simp] theorem State.kickWatchdog_ledN (s : State) : s.kickWatchdog.ledN = s.ledN := rfl
@[simp] theorem State.kickWatchdog_pins (s : State) : s.kickWatchdog.pins = s.pins := rfl
@[simp] theorem State.kickWatchdog_script (s : State) : s.kickWatchdog.script = s.script := rfl
@[simp] theorem State.kickWatchdog_clock (s : State) : s.kickWatchdog.clock = s.clock := rfl
@[simp] theorem State.kickWatchdog_slot (s : State) : s.kickWatchdog.slot = s.slot := rfl

@[simp] theorem State.beginStep_lastReportedKey (s : State) :
    s.beginStep.lastReportedKey = s.lastReportedKey := rfl
@[simp] theorem State.beginStep_currentKey (s : State) :
    s.beginStep.currentKey = s.currentKey := rfl
@[simp] theorem State.beginStep_changed (s : State) : s.beginStep.changed = s.changed := rfl
@[simp] theorem State.beginStep_pendingEmptyFrameRequired (s : State) :
    s.beginStep.pendingEmptyFrameRequired = s.pendingEmptyFrameRequired := rfl
@[simp] theorem State.beginStep_phase (s : State) : s.beginStep.phase = s.phase := rfl
@[simp] theorem State.beginStep_rom (s : State) : s.beginStep.rom = s.rom := rfl
@[simp] theorem State.beginStep_inbuf (s : State) : s.beginStep.inbuf = s.inbuf := rfl
@[simp] theorem State.beginStep_rdbuf (s : State) : s.beginStep.rdbuf = s.rdbuf := rfl
@[simp] theorem State.beginStep_respCode (s : State) :
    s.beginStep.respCode = Config.freeRespCode s.clock := rfl
@[simp] theorem State.beginStep_respBase (s : State) :
    s.beginStep.respBase = Config.freeRespBase s.clock := rfl
@[simp] theorem State.beginStep_respLen (s : State) :
    s.beginStep.respLen = Config.freeRespLen s.clock := rfl
@[simp] theorem State.beginStep_rdLen (s : State) :
    s.beginStep.rdLen = Config.freeRdLen s.clock := rfl
@[simp] theorem State.beginStep_rdData (s : State) :
    s.beginStep.rdData = Config.freeRdData s.clock := rfl
@[simp] theorem State.beginStep_wrRet (s : State) :
    s.beginStep.wrRet = Config.freeWrRet s.clock := rfl
@[simp] theorem State.beginStep_inSubmit (s : State) : s.beginStep.inSubmit = false := rfl
@[simp] theorem State.beginStep_inLen (s : State) :
    s.beginStep.inLen = Config.freeInLen s.clock := rfl
@[simp] theorem State.beginStep_inData (s : State) :
    s.beginStep.inData = Config.freeInData s.clock := rfl
@[simp] theorem State.beginStep_wdtKick (s : State) : s.beginStep.wdtKick = false := rfl
@[simp] theorem State.beginStep_ledN (s : State) : s.beginStep.ledN = Config.freeLedN s.clock := rfl
@[simp] theorem State.beginStep_pins (s : State) : s.beginStep.pins = s.pins := rfl
@[simp] theorem State.beginStep_script (s : State) : s.beginStep.script = s.script := rfl
@[simp] theorem State.beginStep_clock (s : State) : s.beginStep.clock = s.clock := rfl
@[simp] theorem State.beginStep_slot (s : State) : s.beginStep.slot = none := rfl

@[simp] theorem State.takeReset_lastReportedKey (s : State) : s.takeReset.lastReportedKey = 0 := rfl
@[simp] theorem State.takeReset_currentKey (s : State) : s.takeReset.currentKey = 0 := rfl
@[simp] theorem State.takeReset_changed (s : State) : s.takeReset.changed = false := rfl
@[simp] theorem State.takeReset_pendingEmptyFrameRequired (s : State) :
    s.takeReset.pendingEmptyFrameRequired = false := rfl
@[simp] theorem State.takeReset_phase (s : State) : s.takeReset.phase = .kick := rfl
@[simp] theorem State.takeReset_rom (s : State) : s.takeReset.rom = s.rom := rfl
@[simp] theorem State.takeReset_inbuf (s : State) : s.takeReset.inbuf = [] := rfl
@[simp] theorem State.takeReset_rdbuf (s : State) : s.takeReset.rdbuf = [] := rfl
@[simp] theorem State.takeReset_respCode (s : State) :
    s.takeReset.respCode = Config.freeRespCode s.clock := rfl
@[simp] theorem State.takeReset_respBase (s : State) :
    s.takeReset.respBase = Config.freeRespBase s.clock := rfl
@[simp] theorem State.takeReset_respLen (s : State) :
    s.takeReset.respLen = Config.freeRespLen s.clock := rfl
@[simp] theorem State.takeReset_rdLen (s : State) :
    s.takeReset.rdLen = Config.freeRdLen s.clock := rfl
@[simp] theorem State.takeReset_rdData (s : State) :
    s.takeReset.rdData = Config.freeRdData s.clock := rfl
@[simp] theorem State.takeReset_wrRet (s : State) :
    s.takeReset.wrRet = Config.freeWrRet s.clock := rfl
@[simp] theorem State.takeReset_inSubmit (s : State) : s.takeReset.inSubmit = false := rfl
@[simp] theorem State.takeReset_inLen (s : State) :
    s.takeReset.inLen = Config.freeInLen s.clock := rfl
@[simp] theorem State.takeReset_inData (s : State) :
    s.takeReset.inData = Config.freeInData s.clock := rfl
@[simp] theorem State.takeReset_wdtKick (s : State) : s.takeReset.wdtKick = false := rfl
@[simp] theorem State.takeReset_ledN (s : State) : s.takeReset.ledN = Config.freeLedN s.clock := rfl
@[simp] theorem State.takeReset_pins (s : State) : s.takeReset.pins = s.pins := rfl
@[simp] theorem State.takeReset_script (s : State) : s.takeReset.script = s.script := rfl
@[simp] theorem State.takeReset_clock (s : State) : s.takeReset.clock = s.clock := rfl
@[simp] theorem State.takeReset_slot (s : State) : s.takeReset.slot = none := rfl

/-! ## The staging of several packets -/

@[simp] theorem State.stagePackets_lastReportedKey (s : State) (p : Nat) (seq : List Packet) :
    (s.stagePackets p seq).lastReportedKey = s.lastReportedKey := by
  induction seq generalizing s p with
  | nil => rfl
  | cons pkt rest ih => simp [State.stagePackets, ih]

@[simp] theorem State.stagePackets_currentKey (s : State) (p : Nat) (seq : List Packet) :
    (s.stagePackets p seq).currentKey = s.currentKey := by
  induction seq generalizing s p with
  | nil => rfl
  | cons pkt rest ih => simp [State.stagePackets, ih]

@[simp] theorem State.stagePackets_changed (s : State) (p : Nat) (seq : List Packet) :
    (s.stagePackets p seq).changed = s.changed := by
  induction seq generalizing s p with
  | nil => rfl
  | cons pkt rest ih => simp [State.stagePackets, ih]

@[simp] theorem State.stagePackets_pendingEmptyFrameRequired (s : State) (p : Nat) (seq : List Packet) :
    (s.stagePackets p seq).pendingEmptyFrameRequired = s.pendingEmptyFrameRequired := by
  induction seq generalizing s p with
  | nil => rfl
  | cons pkt rest ih => simp [State.stagePackets, ih]

@[simp] theorem State.stagePackets_phase (s : State) (p : Nat) (seq : List Packet) :
    (s.stagePackets p seq).phase = s.phase := by
  induction seq generalizing s p with
  | nil => rfl
  | cons pkt rest ih => simp [State.stagePackets, ih]

@[simp] theorem State.stagePackets_rom (s : State) (p : Nat) (seq : List Packet) :
    (s.stagePackets p seq).rom = s.rom := by
  induction seq generalizing s p with
  | nil => rfl
  | cons pkt rest ih => simp [State.stagePackets, ih]

@[simp] theorem State.stagePackets_rdbuf (s : State) (p : Nat) (seq : List Packet) :
    (s.stagePackets p seq).rdbuf = s.rdbuf := by
  induction seq generalizing s p with
  | nil => rfl
  | cons pkt rest ih => simp [State.stagePackets, ih]

@[simp] theorem State.stagePackets_respCode (s : State) (p : Nat) (seq : List Packet) :
    (s.stagePackets p seq).respCode = s.respCode := by
  induction seq generalizing s p with
  | nil => rfl
  | cons pkt rest ih => simp [State.stagePackets, ih]

@[simp] theorem State.stagePackets_respBase (s : State) (p : Nat) (seq : List Packet) :
    (s.stagePackets p seq).respBase = s.respBase := by
  induction seq generalizing s p with
  | nil => rfl
  | cons pkt rest ih => simp [State.stagePackets, ih]

@[simp] theorem State.stagePackets_respLen (s : State) (p : Nat) (seq : List Packet) :
    (s.stagePackets p seq).respLen = s.respLen := by
  induction seq generalizing s p with
  | nil => rfl
  | cons pkt rest ih => simp [State.stagePackets, ih]

@[simp] theorem State.stagePackets_rdLen (s : State) (p : Nat) (seq : List Packet) :
    (s.stagePackets p seq).rdLen = s.rdLen := by
  induction seq generalizing s p with
  | nil => rfl
  | cons pkt rest ih => simp [State.stagePackets, ih]

@[simp] theorem State.stagePackets_rdData (s : State) (p : Nat) (seq : List Packet) :
    (s.stagePackets p seq).rdData = s.rdData := by
  induction seq generalizing s p with
  | nil => rfl
  | cons pkt rest ih => simp [State.stagePackets, ih]

@[simp] theorem State.stagePackets_wrRet (s : State) (p : Nat) (seq : List Packet) :
    (s.stagePackets p seq).wrRet = s.wrRet := by
  induction seq generalizing s p with
  | nil => rfl
  | cons pkt rest ih => simp [State.stagePackets, ih]

@[simp] theorem State.stagePackets_inSubmit (s : State) (p : Nat) (seq : List Packet) :
    (s.stagePackets p seq).inSubmit = s.inSubmit := by
  induction seq generalizing s p with
  | nil => rfl
  | cons pkt rest ih => simp [State.stagePackets, ih]

@[simp] theorem State.stagePackets_inLen (s : State) (p : Nat) (seq : List Packet) :
    (s.stagePackets p seq).inLen = s.inLen := by
  induction seq generalizing s p with
  | nil => rfl
  | cons pkt rest ih => simp [State.stagePackets, ih]

@[simp] theorem State.stagePackets_inData (s : State) (p : Nat) (seq : List Packet) :
    (s.stagePackets p seq).inData = s.inData := by
  induction seq generalizing s p with
  | nil => rfl
  | cons pkt rest ih => simp [State.stagePackets, ih]

@[simp] theorem State.stagePackets_wdtKick (s : State) (p : Nat) (seq : List Packet) :
    (s.stagePackets p seq).wdtKick = s.wdtKick := by
  induction seq generalizing s p with
  | nil => rfl
  | cons pkt rest ih => simp [State.stagePackets, ih]

@[simp] theorem State.stagePackets_ledN (s : State) (p : Nat) (seq : List Packet) :
    (s.stagePackets p seq).ledN = s.ledN := by
  induction seq generalizing s p with
  | nil => rfl
  | cons pkt rest ih => simp [State.stagePackets, ih]

@[simp] theorem State.stagePackets_pins (s : State) (p : Nat) (seq : List Packet) :
    (s.stagePackets p seq).pins = s.pins := by
  induction seq generalizing s p with
  | nil => rfl
  | cons pkt rest ih => simp [State.stagePackets, ih]

@[simp] theorem State.stagePackets_script (s : State) (p : Nat) (seq : List Packet) :
    (s.stagePackets p seq).script = s.script := by
  induction seq generalizing s p with
  | nil => rfl
  | cons pkt rest ih => simp [State.stagePackets, ih]

@[simp] theorem State.stagePackets_clock (s : State) (p : Nat) (seq : List Packet) :
    (s.stagePackets p seq).clock = s.clock := by
  induction seq generalizing s p with
  | nil => rfl
  | cons pkt rest ih => simp [State.stagePackets, ih]

@[simp] theorem State.stagePackets_slot (s : State) (p : Nat) (seq : List Packet) :
    (s.stagePackets p seq).slot = s.slot := by
  induction seq generalizing s p with
  | nil => rfl
  | cons pkt rest ih => simp [State.stagePackets, ih]

/-! ## The driving of the input ports -/

@[simp] theorem State.drivePins_lastReportedKey (s : State) : s.drivePins.lastReportedKey = s.lastReportedKey := by
  unfold State.drivePins; split <;> rfl

@[simp] theorem State.drivePins_currentKey (s : State) : s.drivePins.currentKey = s.currentKey := by
  unfold State.drivePins; split <;> rfl

@[simp] theorem State.drivePins_changed (s : State) : s.drivePins.changed = s.changed := by
  unfold State.drivePins; split <;> rfl

@[simp] theorem State.drivePins_pendingEmptyFrameRequired (s : State) : s.drivePins.pendingEmptyFrameRequired = s.pendingEmptyFrameRequired := by
  unfold State.drivePins; split <;> rfl

@[simp] theorem State.drivePins_phase (s : State) : s.drivePins.phase = s.phase := by
  unfold State.drivePins; split <;> rfl

@[simp] theorem State.drivePins_rom (s : State) : s.drivePins.rom = s.rom := by
  unfold State.drivePins; split <;> rfl

@[simp] theorem State.drivePins_inbuf (s : State) : s.drivePins.inbuf = s.inbuf := by
  unfold State.drivePins; split <;> rfl

@[simp] theorem State.drivePins_rdbuf (s : State) : s.drivePins.rdbuf = s.rdbuf := by
  unfold State.drivePins; split <;> rfl

@[simp] theorem State.drivePins_respCode (s : State) : s.drivePins.respCode = s.respCode := by
  unfold State.drivePins; split <;> rfl

@[simp] theorem State.drivePins_respBase (s : State) : s.drivePins.respBase = s.respBase := by
  unfold State.drivePins; split <;> rfl

@[simp] theorem State.drivePins_respLen (s : State) : s.drivePins.respLen = s.respLen := by
  unfold State.drivePins; split <;> rfl

@[simp] theorem State.drivePins_rdLen (s : State) : s.drivePins.rdLen = s.rdLen := by
  unfold State.drivePins; split <;> rfl

@[simp] theorem State.drivePins_rdData (s : State) : s.drivePins.rdData = s.rdData := by
  unfold State.drivePins; split <;> rfl

@[simp] theorem State.drivePins_wrRet (s : State) : s.drivePins.wrRet = s.wrRet := by
  unfold State.drivePins; split <;> rfl

@[simp] theorem State.drivePins_inSubmit (s : State) : s.drivePins.inSubmit = s.inSubmit := by
  unfold State.drivePins; split <;> rfl

@[simp] theorem State.drivePins_inLen (s : State) : s.drivePins.inLen = s.inLen := by
  unfold State.drivePins; split <;> rfl

@[simp] theorem State.drivePins_inData (s : State) : s.drivePins.inData = s.inData := by
  unfold State.drivePins; split <;> rfl

@[simp] theorem State.drivePins_wdtKick (s : State) : s.drivePins.wdtKick = s.wdtKick := by
  unfold State.drivePins; split <;> rfl

@[simp] theorem State.drivePins_ledN (s : State) : s.drivePins.ledN = s.ledN := by
  unfold State.drivePins; split <;> rfl

@[simp] theorem State.drivePins_clock (s : State) : s.drivePins.clock = s.clock + 1 := by
  unfold State.drivePins; split <;> rfl

@[simp] theorem State.drivePins_slot (s : State) : s.drivePins.slot = s.slot := by
  unfold State.drivePins; split <;> rfl

end Sys2Proof.Machine
end

