-- ==== Sys2Proof/Laws/Ops.lean ====
section
/-!
SUPPORT. What each shared operation can do, said once.
-/

namespace Sys2Proof.Machine

/-! ## Outcomes -/

@[simp] theorem andThen_next (s : State) (f : State → Result) : andThen (.next s) f = f s := rfl

@[simp] theorem andThen_fault (e : Fault) (f : State → Result) :
    andThen (.fault e) f = .fault e := rfl

@[simp] theorem andThen_refused (e : Refusal) (f : State → Result) :
    andThen (.refused e) f = .refused e := rfl

/-- A sequence answers a next state when both its parts do. -/
theorem andThen_eq_next {r : Result} {f : State → Result} {t : State}
    (h : andThen r f = .next t) : ∃ u, r = .next u ∧ f u = .next t := by
  cases r with
  | next u => exact ⟨u, rfl, h⟩
  | fault e => cases h
  | refused e => cases h

/-- Driving the input ports again answers a next state when the meaning does. -/
theorem thenDrivePins_eq_next {r : Result} {t : State} (h : thenDrivePins r = .next t) :
    ∃ u, r = .next u ∧ t = u.drivePins := by
  obtain ⟨u, hu, ht⟩ := andThen_eq_next h
  cases ht
  exact ⟨u, hu, rfl⟩

/-! ## Operands -/

/-- `sample` answers a note-or-none for every key word. -/
theorem isNoteOrNone_sample (p : BitVec 6) : isNoteOrNone (sample p) = true := by
  revert p; decide

/-- The bytes gathered on a port are found at their places, with 0 above them. -/
theorem payloadByte_gather (bs : List Byte) (j : Nat) (hj : j < 8) :
    payloadByte (gather bs) j = bs.getD j 0 := by
  induction bs generalizing j with
  | nil => simp [payloadByte, gather]
  | cons b bs ih =>
    cases j with
    | zero =>
      apply BitVec.eq_of_getLsbD_eq
      intro i hi
      have h64 : i < 64 := by omega
      simp [payloadByte, gather, hi, h64]
    | succ j =>
      have h := ih j (by omega)
      rw [List.getD_cons_succ, ← h]
      apply BitVec.eq_of_getLsbD_eq
      intro i hi
      have h1 : 8 * (j + 1) + i < 64 := by omega
      have h2 : ¬ 8 * (j + 1) + i < 8 := by omega
      have h3 : 8 * (j + 1) + i - 8 = 8 * j + i := by omega
      have h4 : b.getLsbD (8 * (j + 1) + i) = false := BitVec.getLsbD_of_ge _ _ (by omega)
      simp [payloadByte, gather, hi, h1, h2, h3, h4, -BitVec.getLsbD_eq_getElem]

theorem length_build (prev cur : Byte) :
    (build prev cur).length = (if prev = noKey then 0 else 1) + (if cur = noKey then 0 else 1) := by
  unfold build
  split <;> split <;> rfl

/-! The four cases of a build (43_packet_builder.md R184). -/

@[simp] theorem build_noKey_noKey : build noKey noKey = [] := rfl

theorem build_noKey_note {cur : Byte} (h : cur ≠ noKey) : build noKey cur = [noteOnPacket cur] := by
  simp [build, if_neg h]

theorem build_note_noKey {prev : Byte} (h : prev ≠ noKey) :
    build prev noKey = [noteOffPacket prev] := by
  simp [build, if_neg h]

theorem build_note_note {prev cur : Byte} (hp : prev ≠ noKey) (hc : cur ≠ noKey) :
    build prev cur = [noteOffPacket prev, noteOnPacket cur] := by
  simp [build, if_neg hp, if_neg hc]

theorem length_flatMap_build (prev cur : Byte) :
    ((build prev cur).flatMap packetBytes).length = frameLen prev cur := by
  unfold frameLen build packetLen
  split <;> split <;> rfl

/-- A framing fills the buffer at most. -/
theorem frameLen_le (prev cur : Byte) : frameLen prev cur ≤ 8 := by
  unfold frameLen packetLen
  rw [length_build]
  split <;> split <;> omega

/-- An empty framing is the framing of no key after no key. -/
theorem frameLen_eq_zero {prev cur : Byte} :
    frameLen prev cur = 0 ↔ prev = noKey ∧ cur = noKey := by
  unfold frameLen packetLen
  rw [length_build]
  split <;> split <;> simp_all

/-! ## The framer -/

/-- A submission: the strobe with `n` and the first `n` bytes, when the endpoint is ready. -/
theorem submit_ready {n : Nat} {s : State} (h : s.pins.inReady = true) :
    submit n s = .next
      { s with
        inSubmit := true
        inLen := BitVec.ofNat 4 n
        inData := gather (s.inbuf.readBytes bufferFill 0 n) } := by
  simp [submit, State.inReadySample, h]

/-- FRAME when the endpoint is ready: nothing for an empty build, else one submission. -/
theorem frame_ready {s : State} (h : s.pins.inReady = true) :
    frame s = .next
      (if frameLen s.lastReportedKey s.currentKey = 0 then s
       else
        State.assignEmptyFrame
          { s.stagePackets 0 (build s.lastReportedKey s.currentKey) with
            inSubmit := true
            inLen := BitVec.ofNat 4 (frameLen s.lastReportedKey s.currentKey)
            inData := gather
              ((s.stagePackets 0 (build s.lastReportedKey s.currentKey)).inbuf.readBytes
                bufferFill 0 (frameLen s.lastReportedKey s.currentKey)) }
          (frameLen s.lastReportedKey s.currentKey)) := by
  unfold frame
  dsimp only
  by_cases h0 : frameLen s.lastReportedKey s.currentKey = 0
  · rw [if_pos h0, if_pos h0]
  · rw [if_neg h0, if_neg h0, submit_ready (by simpa using h)]
    rfl

/-- PHASE_EMIT never faults or refuses: it reads `in_ready` before it frames. -/
theorem execPhaseEmit_eq (s : State) :
    execPhaseEmit s = .next
      (if s.pins.inReady = true ∧ s.changed = true then
        ((if frameLen s.lastReportedKey s.currentKey = 0 then s
          else
            State.assignEmptyFrame
              { s.stagePackets 0 (build s.lastReportedKey s.currentKey) with
                inSubmit := true
                inLen := BitVec.ofNat 4 (frameLen s.lastReportedKey s.currentKey)
                inData := gather
                  ((s.stagePackets 0 (build s.lastReportedKey s.currentKey)).inbuf.readBytes
                    bufferFill 0 (frameLen s.lastReportedKey s.currentKey)) }
              (frameLen s.lastReportedKey s.currentKey)).completeFrame.setPhase .kick)
       else s.setPhase .kick) := by
  unfold execPhaseEmit
  by_cases h : s.pins.inReady = true ∧ s.changed = true
  · have h' : (s.inReadySample && s.changed) = true := by simp [State.inReadySample, h.1, h.2]
    rw [if_pos h', if_pos h, frame_ready h.1]
    rfl
  · have h' : ¬ (s.inReadySample && s.changed) = true := by simpa [State.inReadySample] using h
    rw [if_neg h', if_neg h]

/-- A staged packet keeps the canonical form of the buffer. -/
theorem wf_stagePacket {s : State} (hs : s.inbuf.wf bufferFill inbufSize = true) {p : Nat}
    (hp : p < 2) (pkt : Packet) :
    (s.stagePacket p pkt).inbuf.wf bufferFill inbufSize = true :=
  Memory.wf_writeBytes hs (by simp [packetOffset, packetLen, packetBytes, inbufSize]; omega)

/-- A staged packet is four bytes at its offset; every other byte of the buffer is as before. -/
theorem inbufByte_stagePacket {s : State} (hs : s.inbuf.wf bufferFill inbufSize = true) {p : Nat}
    (hp : p < 2) (pkt : Packet) (c : Nat) :
    (s.stagePacket p pkt).inbufByte c
      = if 4 * p ≤ c ∧ c < 4 * p + 4 then (packetBytes pkt).getD (c - 4 * p) 0
        else s.inbufByte c :=
  Memory.read_writeBytes hs (by simp [packetOffset, packetLen, packetBytes, inbufSize]; omega) c

/-- Staging the packets of a framing keeps the canonical form of the buffer. -/
theorem wf_stagePackets_build {s : State} (hs : s.inbuf.wf bufferFill inbufSize = true)
    (prev cur : Byte) :
    (s.stagePackets 0 (build prev cur)).inbuf.wf bufferFill inbufSize = true := by
  unfold build
  split <;> split
  · exact hs
  · exact wf_stagePacket hs (by decide) _
  · exact wf_stagePacket hs (by decide) _
  · exact wf_stagePacket (wf_stagePacket hs (by decide) _) (by decide) _

/-- The buffer after the packets of a framing are staged: their bytes from the first on, and every
other byte as before. -/
theorem inbufByte_stagePackets_build {s : State} (hs : s.inbuf.wf bufferFill inbufSize = true)
    (prev cur : Byte) (c : Nat) :
    (s.stagePackets 0 (build prev cur)).inbufByte c
      = if c < frameLen prev cur then ((build prev cur).flatMap packetBytes).getD c 0
        else s.inbufByte c := by
  unfold frameLen build packetLen
  split <;> split
  · rfl
  · exact inbufByte_stagePacket hs (p := 0) (by decide) _ c |>.trans (by simp)
  · exact inbufByte_stagePacket hs (p := 0) (by decide) _ c |>.trans (by simp)
  · have h1 := wf_stagePacket hs (p := 0) (by decide) (noteOffPacket prev)
    refine (inbufByte_stagePacket h1 (p := 1) (by decide) (noteOnPacket cur) c).trans ?_
    rw [inbufByte_stagePacket hs (p := 0) (by decide)]
    rcases Nat.lt_or_ge c 4 with h | h
    · have h' : ¬ 4 ≤ c := by omega
      have h8 : c < 8 := by omega
      rcases c with _ | _ | _ | _ | c <;> simp_all [packetBytes]
    · obtain ⟨d, rfl⟩ := Nat.exists_eq_add_of_le h
      rcases Nat.lt_or_ge d 4 with h4 | h4
      · rcases d with _ | _ | _ | _ | d <;> simp [packetBytes]
        omega
      · have h5 : ¬ 4 + d < 8 := by omega
        have h6 : ¬ 4 + d < 4 := by omega
        simp [h5, h6]

/-- The bytes a framing submits. -/
theorem readBytes_stagePackets_build {s : State} (hs : s.inbuf.wf bufferFill inbufSize = true)
    (prev cur : Byte) :
    (s.stagePackets 0 (build prev cur)).inbuf.readBytes bufferFill 0 (frameLen prev cur)
      = (build prev cur).flatMap packetBytes := by
  have hl := length_flatMap_build prev cur
  apply List.ext_getElem
  · simp [Memory.readBytes, hl]
  · intro c h1 h2
    have hc : c < frameLen prev cur := by rw [← hl]; exact h2
    have h := inbufByte_stagePackets_build hs prev cur c
    rw [if_pos hc] at h
    rw [List.getD_eq_getElem _ _ h2] at h
    simpa [Memory.readBytes, State.inbufByte] using h

/-! ## The descriptor ROM -/

@[simp] theorem length_deviceDescriptor : deviceDescriptor.length = 18 := rfl

@[simp] theorem length_configurationDescriptor : configurationDescriptor.length = 101 := rfl

/-- With no cell listed every address reads the build's image. -/
theorem romByte_eq_romImage {s : State} (h : s.rom = []) (a : Nat) :
    s.romByte a = romImage (a % 128) := by
  simp [State.romByte, h, Memory.read, romSize]

/-! ## The control-read buffer -/

/-- Filling the control-read buffer keeps its canonical form. -/
theorem wf_fillRdbuf {s : State} (hs : s.rdbuf.wf bufferFill rdbufSize = true) :
    s.fillRdbuf.rdbuf.wf bufferFill rdbufSize = true :=
  Memory.wf_writeBytes hs (by decide)

/-- After the fill its seven bytes are 0 and every other address reads as before. -/
theorem rdbufByte_fillRdbuf {s : State} (hs : s.rdbuf.wf bufferFill rdbufSize = true) (c : Nat) :
    s.fillRdbuf.rdbufByte c = if c < 7 then 0 else s.rdbufByte c := by
  refine (Memory.read_writeBytes hs (by decide) c).trans ?_
  rcases Nat.lt_or_ge c 7 with h | h
  · have hz : ∀ d < 7, (List.replicate ctrlReadLen (0 : Byte)).getD (d - 0) 0 = 0 := by decide
    rw [if_pos h, if_pos (by simpa [ctrlReadLen] using h), hz c h]
  · have hl : (List.replicate ctrlReadLen (0 : Byte)).length = 7 := rfl
    rw [if_neg (by omega), if_neg (by omega)]
    rfl

/-- A control read answers zeros. -/
theorem rdData_answerRead_fillRdbuf {s : State} (hs : s.rdbuf.wf bufferFill rdbufSize = true)
    (len : BitVec 4) : (s.fillRdbuf.answerRead len).rdData = 0 := by
  have h : s.fillRdbuf.rdbuf.readBytes bufferFill 0 ctrlReadLen = List.replicate 7 0 := by
    apply List.ext_getElem
    · simp [Memory.readBytes, ctrlReadLen]
    · intro c h1 h2
      have hc : c < 7 := by simpa using h2
      have := rdbufByte_fillRdbuf hs c
      rw [if_pos hc] at this
      rw [List.getElem_replicate]
      simpa [Memory.readBytes, State.rdbufByte] using this
  simp only [State.answerRead, h]
  decide

/-! ## Events -/

/-- POLL runs the row its event decodes to. -/
theorem runEvent_eq_exec (e : EngineEvent) (s : State) : runEvent e s = exec (decodeEvent e) s := by
  obtain ⟨k, l, d⟩ := e
  simp only [runEvent, decodeEvent]
  split <;> rfl

/-- A SETUP answers a next state: it writes the answer ports and, for CLASS_H2D, the empty-frame
flag. -/
theorem dispatchSetup_next (sw : Word32) (s : State) :
    ∃ code base len,
      dispatchSetup sw s = .next
        { s with
          respCode := code
          respBase := base
          respLen := len
          pendingEmptyFrameRequired :=
            if classify sw = .classH2d then true else s.pendingEmptyFrameRequired } := by
  unfold dispatchSetup
  cases classify sw <;> exact ⟨_, _, _, rfl⟩

/-- What an event inside the protocol does to the registers and the rest of the state. -/
theorem runEvent_next {e : EngineEvent} {s t : State} (h : runEvent e s = .next t) :
    t.lastReportedKey = s.lastReportedKey ∧ t.currentKey = s.currentKey ∧ t.changed = s.changed
      ∧ t.rom = s.rom ∧ t.inbuf = s.inbuf ∧ t.pins = s.pins ∧ t.script = s.script
      ∧ t.clock = s.clock ∧ t.slot = s.slot ∧ t.inSubmit = s.inSubmit ∧ t.wdtKick = s.wdtKick
      ∧ t.phase = (if e.kind = 0 then .sample else s.phase)
      ∧ t.rdbuf = (if e.kind = 2 then s.fillRdbuf.rdbuf else s.rdbuf)
      ∧ t.pendingEmptyFrameRequired
          = (if e.kind = 1 ∧ classify (swOf e.data) = .classH2d then true
             else s.pendingEmptyFrameRequired) := by
  obtain ⟨k, l, d⟩ := e
  unfold runEvent at h
  dsimp only at h ⊢
  split at h
  · cases h; simp
  · obtain ⟨c, b, n, hd⟩ := dispatchSetup_next (swOf d) s
    rw [execEvtSetup, hd] at h
    cases h; simp
  · unfold execEvtCtrlRead at h; split at h
    · cases h; simp
    · cases h
  · unfold execEvtCtrlWrite at h; split at h
    · cases h; simp
    · cases h
  · unfold execEvtIntOut at h; split at h
    · cases h; simp
    · cases h
  · cases h
  · cases h
  · cases h

/-- An event inside the protocol, or none, answers a next state. -/
theorem runEvent_accepted {e : EngineEvent} (s : State) (h : e.kind = 0 ∨ acceptedEvent e = true) :
    ∃ t, runEvent e s = .next t := by
  obtain ⟨k, l, d⟩ := e
  unfold runEvent
  dsimp only [acceptedEvent] at h ⊢
  split
  · exact ⟨_, rfl⟩
  · obtain ⟨c, b, n, hd⟩ := dispatchSetup_next (swOf d) s
    exact ⟨_, hd⟩
  all_goals simp at h
  · exact ⟨_, if_pos h⟩
  · exact ⟨_, if_pos h⟩
  · exact ⟨_, if_pos h⟩

end Sys2Proof.Machine
end

