-- ==== Sys2Proof/Laws/PerInstr.lean ====
section
/-!
SUPPORT. Families of statements about every row of opcode_table.json, one lemma a constructor.
-/

/-- A row is laid out in as many bytes as its format has. -/
def Sys2Proof.Laws.EncodedLength.Statement (i : Sys2Proof.Instr) : Prop :=
  (Sys2Proof.encode i).length = Sys2Proof.formatBytes i.format

namespace Sys2Proof.Laws.EncodedLength

theorem getDescriptorDevice (r : BitVec 5) (v : Byte) : Statement (.getDescriptorDevice r v) := rfl

theorem getDescriptorConfig (r : BitVec 5) (v d : Byte) : Statement (.getDescriptorConfig r v d) := rfl

theorem stdOther (dir : BitVec 1) (r : BitVec 5) (b v d : Byte) : Statement (.stdOther dir r b v d) := rfl

theorem classH2d (r : BitVec 5) (b v d : Byte) : Statement (.classH2d r b v d) := rfl

theorem classD2h (r : BitVec 5) (b v d : Byte) : Statement (.classD2h r b v d) := rfl

theorem vendorH2d (r : BitVec 5) (b v d : Byte) : Statement (.vendorH2d r b v d) := rfl

theorem vendorD2h (r : BitVec 5) (b v d : Byte) : Statement (.vendorD2h r b v d) := rfl

theorem reservedH2d (r : BitVec 5) (b v d : Byte) : Statement (.reservedH2d r b v d) := rfl

theorem reservedD2h (r : BitVec 5) (b v d : Byte) : Statement (.reservedD2h r b v d) := rfl

theorem evtNone : Statement (.evtNone) := rfl

theorem evtSetup (l : BitVec 4) (d : Payload) : Statement (.evtSetup l d) := rfl

theorem evtCtrlRead (l : BitVec 4) (d : Payload) : Statement (.evtCtrlRead l d) := rfl

theorem evtCtrlWrite (l : BitVec 4) (d : Payload) : Statement (.evtCtrlWrite l d) := rfl

theorem evtIntOut (l : BitVec 4) (d : Payload) : Statement (.evtIntOut l d) := rfl

theorem evtReserved5 (l : BitVec 4) (d : Payload) : Statement (.evtReserved5 l d) := rfl

theorem evtReserved67 (low : BitVec 1) (l : BitVec 4) (d : Payload) : Statement (.evtReserved67 low l d) := rfl

theorem noteOff (k : Byte) : Statement (.noteOff k) := rfl

theorem noteOn (k : Byte) : Statement (.noteOn k) := rfl

theorem keySample60 (a : BitVec 5) : Statement (.keySample60 a) := rfl

theorem keySample62 (a : BitVec 4) : Statement (.keySample62 a) := rfl

theorem keySample64 (a : BitVec 3) : Statement (.keySample64 a) := rfl

theorem keySample65 (a : BitVec 2) : Statement (.keySample65 a) := rfl

theorem keySample67 (a : BitVec 1) : Statement (.keySample67 a) := rfl

theorem keySample69 : Statement (.keySample69) := rfl

theorem keySampleNone : Statement (.keySampleNone) := rfl

theorem phaseKick : Statement (.phaseKick) := rfl

theorem phasePoll : Statement (.phasePoll) := rfl

theorem phaseSample : Statement (.phaseSample) := rfl

theorem phaseEmit : Statement (.phaseEmit) := rfl

end Sys2Proof.Laws.EncodedLength
end

