-- ==== Sys2Proof/Laws/Step.lean ====
section
/-!
SUPPORT. What a step can do, said once: from this every invariant is a short case analysis.
-/

namespace Sys2Proof.Machine

/-- A step that answers a next state took the reset, or ran the row it decoded; then the input ports
were driven again. -/
theorem step_eq_next {s t : State} (h : step s = .next t) :
    (s.pins.rst = true ∧ t = s.takeReset.drivePins)
      ∨ ∃ i u, s.pins.rst = false ∧ fetch s = .ok i ∧ exec i s.beginStep = .next u
          ∧ t = u.drivePins := by
  unfold step at h
  split at h
  · cases h; exact .inl ⟨by assumption, rfl⟩
  · split at h
    · obtain ⟨u, hu, rfl⟩ := thenDrivePins_eq_next h
      exact .inr ⟨_, u, by simp_all, by assumption, hu, rfl⟩
    · cases h

/-- With `rst` released a step is the row it decodes, run as the step begins. -/
theorem step_of_fetch {s : State} {i : Instr} (hr : s.pins.rst = false) (hf : fetch s = .ok i) :
    step s = thenDrivePins (exec i s.beginStep) := by
  simp [step, hr, hf]

/-- With nothing offered the row is the phase's. -/
theorem fetch_phase {s : State} (h : s.slot = none) :
    fetch s = .ok (decodePhase (phaseCode s.phase)) := by
  unfold fetch fetchSlot
  rw [h]
  cases s.phase <;> rfl

/-- A step that goes on is followed by the steps left. -/
theorem runSteps_succ {n : Nat} {s t : State} (h : step s = .next t) :
    runSteps (n + 1) s = runSteps n t := by
  rw [runSteps, h, andThen_next]

/-- With port values arranged, driving the ports takes the first of them. -/
theorem drivePins_cons {s : State} {p : Pins} {rest : List Pins} (h : s.script = p :: rest) :
    s.drivePins = { s with pins := p, script := rest, clock := s.clock + 1 } := by
  unfold State.drivePins
  rw [h]

/-- Every row leaves the ROM, the input ports and the model's own fields. -/
theorem exec_next_frame {i : Instr} {s t : State} (h : exec i s = .next t) :
    t.rom = s.rom ∧ t.pins = s.pins ∧ t.script = s.script ∧ t.clock = s.clock ∧ t.slot = s.slot := by
  cases i
  case evtSetup l d =>
    obtain ⟨c, b, n, hd⟩ := dispatchSetup_next (swOf d) s
    simp only [exec, execEvtSetup, hd] at h
    cases h; simp
  case evtCtrlRead l d =>
    simp only [exec, execEvtCtrlRead] at h
    split at h <;> cases h
    simp
  case evtCtrlWrite l d =>
    simp only [exec, execEvtCtrlWrite] at h
    split at h <;> cases h
    simp
  case evtIntOut l d =>
    simp only [exec, execEvtIntOut] at h
    split at h <;> cases h
    simp
  case phasePoll =>
    have := runEvent_next h
    simp [this]
  case phaseEmit =>
    simp only [exec, execPhaseEmit_eq] at h
    cases h
    split
    · split <;> simp
    · simp
  all_goals first
    | (cases h; simp)
    | cases h

end Sys2Proof.Machine
end

