-- ==== Sys2Proof/Machine/Trace.lean ====
section
/-!
DEFINITION. The trace text of 30_encoding.md R85: the inputs and outputs of a run as text. No rule
of the machine reads it.
-/

namespace Sys2Proof.Machine

/-- The outputs a trace names (30_encoding.md R85). -/
inductive TraceOut where
  | respDataFollows
  | respDescriptor (base len : Nat)
  | respEngine
  | rd (bytes : List Byte)
  | wr (value : Nat)
  | submit (bytes : List Byte)
  | zlpReq (value : Bool)
  deriving DecidableEq, Repr

/-- The first `n` bytes on a payload port, byte 0 first (10_state.md R30). -/
def portBytes (n : Nat) (data : Payload) : List Byte := (List.range n).map (payloadByte data)

/-- The answer to a SETUP on the ports (30_encoding.md R80); code 11 is never driven. -/
def setupOut (s : State) : List TraceOut :=
  if s.respCode = dataFollows then [.respDataFollows]
  else if s.respCode = descriptorCode then [.respDescriptor s.respBase.toNat s.respLen.toNat]
  else if s.respCode = engineCode then [.respEngine]
  else []

/-- The answer to an event in the state its POLL step leaves (10_state.md R33, 30_encoding.md R85). -/
def eventOut (e : EngineEvent) (s : State) : List TraceOut :=
  if e.kind = 1 then setupOut s
  else if e.kind = 2 then [.rd (portBytes s.rdLen.toNat s.rdData)]
  else if e.kind = 3 then [.wr s.wrRet.toNat]
  else []

/-- The submission and the flag in the state an EMIT step leaves (30_encoding.md R85). -/
def emitOut (s : State) : List TraceOut :=
  (if s.inSubmit then [.submit (portBytes s.inLen.toNat s.inData)] else []) ++ [.zlpReq s.zlpReq]

/-- One hexadecimal digit. -/
def hexDigit (n : Nat) : String :=
  (["0", "1", "2", "3", "4", "5", "6", "7", "8", "9", "A", "B", "C", "D", "E", "F"]).getD n "?"

/-- A byte as two hexadecimal digits. -/
def hexByte (b : Byte) : String := hexDigit (b.toNat / 16) ++ hexDigit (b.toNat % 16)

/-- Bytes, a space before each. -/
def hexBytes (bs : List Byte) : String := String.join (bs.map fun b => " " ++ hexByte b)

/-- One bit. -/
def bitText (b : Bool) : String := if b then "1" else "0"

/-- An output as text (30_encoding.md R85). -/
def TraceOut.text : TraceOut → String
  | .respDataFollows => "-> RESP DATA_FOLLOWS"
  | .respDescriptor base len =>
      "-> RESP DESCRIPTOR base=0x" ++ hexByte (BitVec.ofNat 8 base) ++ " len=" ++ toString len
  | .respEngine => "-> RESP ENGINE"
  | .rd bytes => "-> RD " ++ toString bytes.length ++ ":" ++ hexBytes bytes
  | .wr value => "-> WR " ++ toString value
  | .submit bytes => "-> SUBMIT " ++ toString bytes.length ++ ":" ++ hexBytes bytes
  | .zlpReq value => "-> zlp_req=" ++ bitText value

/-- An event as text; an event that R85 does not write has none (30_encoding.md R85). -/
def eventText (e : EngineEvent) : String :=
  if e.kind = 1 then "SETUP" ++ hexBytes (portBytes 8 e.data)
  else if e.kind = 2 then "CTRL_READ " ++ toString e.len.toNat
  else if e.kind = 3 then "CTRL_WRITE " ++ toString e.len.toNat
  else if e.kind = 4 then
    "INT_OUT " ++ toString e.len.toNat ++ " [" ++ " ".intercalate
      ((portBytes e.len.toNat e.data).map hexByte) ++ "]"
  else ""

/-- `keys=<b5..b0>`, most significant bit first (30_encoding.md R85). -/
def keysText (keyN : BitVec 6) : String :=
  String.join ((List.range 6).map fun j => bitText (keyN.getLsbD (5 - j)))

/-- `TICK keys=... ready=... (events in braces)` (30_encoding.md R85). -/
def tickText (events : List EngineEvent) (keyN : BitVec 6) (inReady : Bool) : String :=
  "TICK keys=" ++ keysText keyN ++ " ready=" ++ bitText inReady ++ " "
    ++ String.singleton (Char.ofNat 123) ++ " "
    ++ (if events = [] then "" else "; ".intercalate (events.map eventText) ++ " ")
    ++ String.singleton (Char.ofNat 125)

end Sys2Proof.Machine
end

