-- ==== Sys2Proof/Tests/Slice0.lean ====
section
/-!
SUPPORT. Tests: ill-formed terms, words written out from the encodings, one or two steps of each row
with expected values from 95_test_vectors.md and the rules' own examples, and witnesses that the
hypotheses of the obligations can be met.
-/

open Sys2Proof Sys2Proof.Machine

namespace Sys2Proof.Tests

/-- A field of the next state; none when there is none. -/
def field {α : Type} (f : State → α) : Result → Option α
  | .next s => some (f s)
  | .fault _ => none
  | .refused _ => none

/-- The refusal, if it is one. -/
def refusal : Result → Option Refusal
  | .refused r => some r
  | .next _ => none
  | .fault _ => none

/-- A state from `rep cur chg pef`, as 95_test_vectors.md writes it. -/
def at_ (rep cur : Byte) (chg pef : Bool) : State :=
  { State.reset with
    lastReportedKey := rep
    currentKey := cur
    changed := chg
    pendingEmptyFrameRequired := pef }

/-- The state with these input ports and this phase. -/
def withPins (s : State) (p : Phase) (pins : Pins) : State := { s with phase := p, pins := pins }

/-! ## Ill-formed terms -/

/-- `dtype` 0x01 is the earlier row's (30_encoding.md R75). -/
theorem test_config_row_excludes_device_type :
    (Instr.getDescriptorConfig 0 0 0x01).wellFormed = false := by decide

/-- GET_DESCRIPTOR is the earlier rows' (30_encoding.md R75). -/
theorem test_std_other_excludes_get_descriptor :
    (Instr.stdOther 1 0 0x06 0 0x02).wellFormed = false := by decide

/-- 0 is no note (00_scope.md R11). -/
theorem test_note_off_needs_a_note : (Instr.noteOff 0).wellFormed = false := by decide

/-- 71 is no note of the block (90_conflicts.md C1). -/
theorem test_note_on_needs_a_note : (Instr.noteOn 71).wellFormed = false := by decide

/-- A length of 9 is outside the protocol (30_encoding.md R79). -/
theorem test_lengths_over_eight_are_ill_formed :
    (Instr.evtCtrlRead 9 0).wellFormed = false ∧ (Instr.evtCtrlWrite 9 0).wellFormed = false
      ∧ (Instr.evtIntOut 9 0).wellFormed = false := by decide

theorem test_lengths_to_eight_are_well_formed :
    (Instr.evtCtrlRead 8 0).wellFormed = true ∧ (Instr.evtCtrlWrite 0 0).wellFormed = true
      ∧ (Instr.evtIntOut 8 0).wellFormed = true ∧ (Instr.noteOn 69).wellFormed = true := by decide

/-! ## Words written out from the encodings -/

/-- 30_encoding.md R75 rows 1 and 2, with operand fields set. -/
theorem test_decode_get_descriptor :
    decodeBytes .setupSw [0x80, 0x06, 0x00, 0x01] = .ok (.getDescriptorDevice 0 0)
      ∧ decodeBytes .setupSw [0x9F, 0x06, 0xA5, 0x01] = .ok (.getDescriptorDevice 0x1F 0xA5)
      ∧ decodeBytes .setupSw [0x80, 0x06, 0x01, 0x03] = .ok (.getDescriptorConfig 0 1 3)
      ∧ decodeBytes .setupSw [0x80, 0x06, 0x00, 0x00] = .ok (.getDescriptorConfig 0 0 0) := by
  decide

/-- 30_encoding.md R75 row 3: SET_CONFIGURATION, and GET_DESCRIPTOR's number host to device. -/
theorem test_decode_std_other :
    decodeBytes .setupSw [0x00, 0x09, 0x01, 0x00] = .ok (.stdOther 0 0 9 1 0)
      ∧ decodeBytes .setupSw [0x00, 0x06, 0x00, 0x01] = .ok (.stdOther 0 0 6 0 1)
      ∧ decodeBytes .setupSw [0x82, 0x00, 0x00, 0x00] = .ok (.stdOther 1 2 0 0 0) := by decide

/-- 30_encoding.md R75 rows 4 to 9. -/
theorem test_decode_other_classes :
    decodeBytes .setupSw [0x21, 0x0A, 0x00, 0x00] = .ok (.classH2d 1 0x0A 0 0)
      ∧ decodeBytes .setupSw [0xA1, 0x01, 0x02, 0x03] = .ok (.classD2h 1 1 2 3)
      ∧ decodeBytes .setupSw [0x40, 0x01, 0x00, 0x00] = .ok (.vendorH2d 0 1 0 0)
      ∧ decodeBytes .setupSw [0xC0, 0x01, 0x00, 0x00] = .ok (.vendorD2h 0 1 0 0)
      ∧ decodeBytes .setupSw [0x60, 0x00, 0x00, 0x00] = .ok (.reservedH2d 0 0 0 0)
      ∧ decodeBytes .setupSw [0xFF, 0x06, 0x00, 0x01] = .ok (.reservedD2h 0x1F 6 0 1) := by decide

/-- 30_encoding.md R78: the eight kinds. -/
theorem test_decode_events :
    decodeEvent ⟨0b000, 0, 0⟩ = .evtNone ∧ decodeEvent ⟨0b001, 0, 0x0A21⟩ = .evtSetup 0 0x0A21
      ∧ decodeEvent ⟨0b010, 8, 0⟩ = .evtCtrlRead 8 0 ∧ decodeEvent ⟨0b011, 4, 7⟩ = .evtCtrlWrite 4 7
      ∧ decodeEvent ⟨0b100, 4, 7⟩ = .evtIntOut 4 7 ∧ decodeEvent ⟨0b101, 1, 2⟩ = .evtReserved5 1 2
      ∧ decodeEvent ⟨0b110, 1, 2⟩ = .evtReserved67 0 1 2
      ∧ decodeEvent ⟨0b111, 1, 2⟩ = .evtReserved67 1 1 2 := by decide

/-- The model's layout of an event (log 11). -/
theorem test_decode_event_bytes :
    decodeBytes .evt [0x02, 0x08, 1, 2, 3, 4, 5, 6, 7, 8] = .ok (.evtCtrlRead 8 0x0807060504030201)
      ∧ decodeBytes .evt [0x08, 0, 0, 0, 0, 0, 0, 0, 0, 0] = .error .bitOutsidePort
      ∧ decodeBytes .evt [0x02, 0x10, 0, 0, 0, 0, 0, 0, 0, 0] = .error .bitOutsidePort := by decide

/-- 30_encoding.md R77, first byte on the wire first. -/
theorem test_decode_packets :
    decodeBytes .pkt32 [0x08, 0x80, 0x3C, 0x00] = .ok (.noteOff 60)
      ∧ decodeBytes .pkt32 [0x09, 0x90, 0x3E, 0x7F] = .ok (.noteOn 62)
      ∧ decodeBytes .pkt32 [0x09, 0x90, 0x3E, 0x40] = .error .notAPacket
      ∧ decodeBytes .pkt32 [0x19, 0x90, 0x3E, 0x7F] = .error .notAPacket := by decide

/-- 42_key_tracker.md R161: each row of its table. -/
theorem test_decode_keys :
    decodeBytes .keyword [0b111111] = .ok (.keySample60 0b11111)
      ∧ decodeBytes .keyword [0b101110] = .ok (.keySample62 0b1011)
      ∧ decodeBytes .keyword [0b001100] = .ok (.keySample64 0b001)
      ∧ decodeBytes .keyword [0b011000] = .ok (.keySample65 0b01)
      ∧ decodeBytes .keyword [0b110000] = .ok (.keySample67 0b1)
      ∧ decodeBytes .keyword [0b100000] = .ok .keySample69
      ∧ decodeBytes .keyword [0b000000] = .ok .keySampleNone
      ∧ decodeBytes .keyword [0b1000000] = .error .bitOutsidePort := by decide

/-- 10_state.md R27. -/
theorem test_decode_phases :
    decodeBytes .phase [0] = .ok .phaseKick ∧ decodeBytes .phase [1] = .ok .phasePoll
      ∧ decodeBytes .phase [2] = .ok .phaseSample ∧ decodeBytes .phase [3] = .ok .phaseEmit
      ∧ decodeBytes .phase [4] = .error .bitOutsidePort := by decide

/-- The numbered words of opcode_table.json, by the formats of log 12. -/
theorem test_table_words :
    decodeTableWord 32 0x01000680 = some (.getDescriptorDevice 0 0)
      ∧ decodeTableWord 32 0x000000E0 = some (.reservedD2h 0 0 0 0)
      ∧ decodeTableWord 8 0x04 = some (.evtIntOut 0 0)
      ∧ decodeTableWord 32 0x7F3C9009 = some (.noteOn 60)
      ∧ decodeTableWord 8 0x08 = some (.keySample65 0) ∧ decodeTableWord 8 0x03 = some .phaseEmit := by
  decide

/-! ## SETUP requests, with the rules' own examples -/

theorem test_get_descriptor_device :
    field (fun t => (t.respCode, t.respBase.toNat, t.respLen.toNat))
      (exec (.evtSetup 0 0x0040000001000680) State.reset) = some (0b01, 0x00, 18) := by decide

/-- A string request gets the Configuration Descriptor (95_test_vectors.md S4-1). -/
theorem test_get_descriptor_config :
    field (fun t => (t.respCode, t.respBase.toNat, t.respLen.toNat))
      (exec (.evtSetup 0 0x00FF040903010680) State.reset) = some (0b01, 0x12, 101) := by decide

theorem test_std_other :
    field (fun t => (t.respCode, t.zlpReq)) (exec (.evtSetup 0 0x0000000000010900) State.reset)
      = some (0b10, false) := by decide

theorem test_class_h2d :
    field (fun t => (t.respCode, t.zlpReq)) (exec (.evtSetup 0 0x0000000000000A21) State.reset)
      = some (0b00, true) := by decide

theorem test_class_d2h :
    field (fun t => (t.respCode, t.zlpReq)) (exec (.evtSetup 0 0x00080000000001A1) State.reset)
      = some (0b00, false) := by decide

theorem test_vendor_h2d :
    field (fun t => (t.respCode, t.zlpReq)) (exec (.evtSetup 0 0x0140) State.reset)
      = some (0b00, false) := by decide

theorem test_vendor_d2h :
    field (fun t => (t.respCode, t.zlpReq)) (exec (.evtSetup 0 0x00040000000001C0) State.reset)
      = some (0b00, false) := by decide

theorem test_reserved_h2d :
    field (fun t => (t.respCode, t.zlpReq)) (exec (.evtSetup 0 0x60) (at_ 0 0 false true))
      = some (0b00, true) := by decide

theorem test_reserved_d2h :
    field (fun t => (t.respCode, t.zlpReq)) (exec (.evtSetup 0 0x00020000000000E0) State.reset)
      = some (0b00, false) := by decide

/-! ## Events -/

/-- 41_protocol_handler.md R135: 7 zeros for 8, truncated below 7. -/
theorem test_ctrl_read :
    field (fun t => (t.rdLen.toNat, t.rdData)) (exec (.evtCtrlRead 8 0) State.reset) = some (7, 0)
      ∧ field (fun t => (t.rdLen.toNat, t.rdData)) (exec (.evtCtrlRead 3 0) State.reset)
        = some (3, 0) := by decide

theorem test_ctrl_write :
    field (fun t => t.wrRet) (exec (.evtCtrlWrite 4 0x04030201) State.reset) = some 1 := by decide

theorem test_int_out :
    field (fun t => t.regs) (exec (.evtIntOut 4 0x7F3C9009) (at_ 60 62 true true))
      = some ⟨60, 62, true, true⟩ := by decide

theorem test_reserved_kinds_are_refused :
    refusal (exec (.evtReserved5 0 9) State.reset) = some (.refusedEngineEvent ⟨0b101, 0, 9⟩)
      ∧ refusal (exec (.evtReserved67 1 0 9) State.reset)
        = some (.refusedEngineEvent ⟨0b111, 0, 9⟩) := by decide

theorem test_none_ends_poll :
    field (fun t => t.phase) (exec .evtNone (withPins State.reset .poll Pins.idle))
      = some .sample := by decide

/-! ## Keys, packets and phases -/

/-- `currentKey` from each row, and no flag (42_key_tracker.md R161, R162). -/
theorem test_key_rows :
    ([.keySample60 0, .keySample62 1, .keySample64 0, .keySample65 3, .keySample67 1, .keySample69,
      .keySampleNone] : List Instr).map
        (fun i => field (fun t => (t.currentKey, t.changed)) (exec i (at_ 0 5 false false)))
      = [some (60, false), some (62, false), some (64, false), some (65, false), some (67, false),
        some (69, false), some (0, false)] := by decide

theorem test_note_off :
    field (fun t => (List.range 8).map t.inbufByte) (exec (.noteOff 60) (at_ 60 62 true false))
      = some [0x08, 0x80, 0x3C, 0x00, 0, 0, 0, 0] := by decide

/-- After a Note-Off the Note-On is packet 2 (43_packet_builder.md R182). -/
theorem test_note_on :
    field (fun t => (List.range 8).map t.inbufByte) (exec (.noteOn 62) (at_ 60 62 true false))
      = some [0, 0, 0, 0, 0x09, 0x90, 0x3E, 0x7F]
      ∧ field (fun t => (List.range 8).map t.inbufByte) (exec (.noteOn 62) (at_ 0 62 true false))
        = some [0x09, 0x90, 0x3E, 0x7F, 0, 0, 0, 0] := by decide

/-- 44_main_loop.md R200. -/
theorem test_phase_kick :
    field (fun t => (t.regs, t.wdtKick, t.phase)) (step (at_ 60 60 false false))
      = some (⟨60, 60, false, false⟩, true, .poll) := by decide

/-- 44_main_loop.md R201: a class request in POLL, which goes on. -/
theorem test_phase_poll :
    field (fun t => (t.respCode, t.zlpReq, t.phase))
      (step (withPins State.reset .poll { Pins.idle with evtKind := 1, evtData := 0x0A21 }))
      = some (0b00, true, .poll) := by decide

/-- 44_main_loop.md R202. -/
theorem test_phase_sample :
    field (fun t => (t.currentKey, t.changed, t.phase))
      (step (withPins State.reset .sample { Pins.idle with keyN := 0b111100 }))
      = some (60, true, .emit) := by decide

/-- 44_main_loop.md R203. -/
theorem test_phase_emit :
    field (fun t => (t.regs, t.submittedBytes, t.phase))
      (step (withPins (at_ 60 62 true false) .emit { Pins.idle with inReady := true }))
      = some (⟨62, 62, false, true⟩, [0x08, 0x80, 0x3C, 0x00, 0x09, 0x90, 0x3E, 0x7F], .kick) := by
  decide

/-- 44_main_loop.md R205: the endpoint is busy. -/
theorem test_phase_emit_defers :
    field (fun t => (t.regs, t.inSubmit, t.phase))
      (step (withPins (at_ 0 60 true false) .emit Pins.idle))
      = some (⟨0, 60, true, false⟩, false, .kick) := by decide

/-! ## Steps, reset and the interface -/

theorem test_reset_clears :
    field (fun t => (t.regs, t.phase))
      (step (withPins (at_ 60 62 true true) .emit { Pins.idle with rst := true }))
      = some (⟨0, 0, false, false⟩, .kick) := by decide

/-- A placed row runs as the next step, and the phase is as it was (log 2). -/
theorem test_placed_row_runs :
    field (fun t => (t.currentKey, t.phase)) (step (State.reset.withFetchWord 8 0x08))
      = some (65, .kick)
      ∧ field (fun t => (t.zlpReq, t.phase)) (step (State.reset.withFetchWord 32 0x20))
        = some (true, .kick)
      ∧ field (fun t => t.phase) (step (State.reset.withFetchWord 8 0x02)) = some .emit := by decide

theorem test_core_step : Sys2Proof.core.step Sys2Proof.core.reset = step State.reset := rfl

/-- `rom_data` at the four corners of the ROM (40_descriptor_rom.md R116). -/
theorem test_rom_data :
    [0x00, 0x11, 0x12, 0x76, 0x77, 0x7F].map State.reset.romByte
      = [0x12, 0x01, 0x09, 0x03, 0x00, 0x00] := by decide

/-- The trace outputs of 95_test_vectors.md S4-4 (30_encoding.md R85). -/
theorem test_trace_of_emit :
    field emitOut (step (withPins (at_ 64 60 true false) .emit { Pins.idle with inReady := true }))
      = some [.submit [0x08, 0x80, 0x40, 0x00, 0x09, 0x90, 0x3C, 0x7F], .zlpReq true] := by decide

/-- The pseudo-events expand to the SETUP bytes of 30_encoding.md R86. -/
theorem test_pseudo_events :
    getStringDescriptorEvent 1 0x00FF = ⟨1, 0, 0x00FF040903010680⟩
      ∧ setConfigurationEvent 1 = ⟨1, 0, 0x0000000000010900⟩ ∧ keysPress 5 = 0b011111 := by decide

/-! ## Witnesses: the hypotheses of each obligation can be met -/

/-- A step that clears the flag by a 4-byte submission, and one by a reset. -/
theorem witness_ClassOutRequestSetsEmptyFrameFlag :
    (swOf 0x0A21 &&& 0xE0 = 0x20)
      ∧ field (fun t => (t.pendingEmptyFrameRequired, t.inSubmit))
          (step (withPins (at_ 0 60 true true) .emit { Pins.idle with inReady := true }))
        = some (false, true)
      ∧ field (fun t => t.pendingEmptyFrameRequired)
          (step (withPins (at_ 0 60 true true) .emit { Pins.idle with rst := true }))
        = some false := by decide

theorem witness_StandardRequestsGoToTheEngine :
    (Instr.stdOther 1 0 0 0 0).encodable = true
      ∧ swOf 0x0000000000010900 &&& 0x60 = 0 ∧ swOf 0x0000000000010900 &&& 0xFFE0 ≠ 0x680
      ∧ swOf 0x0600 &&& 0x60 = 0 ∧ swOf 0x0600 &&& 0xFFE0 ≠ 0x680 := by decide

theorem witness_DeviceTypeGetsDeviceDescriptor :
    swOf 0x0040000001000680 &&& 0xFF00FFE0 = 0x01000680 := by decide

theorem witness_EveryOtherTypeGetsConfigurationDescriptor :
    swOf 0x00000680 &&& 0x0000FFE0 = 0x00000680 ∧ swDtype (swOf 0x00000680) ≠ 0x01
      ∧ swOf 0xFF000680 &&& 0x0000FFE0 = 0x00000680 ∧ swDtype (swOf 0xFF000680) ≠ 0x01 := by decide

theorem witness_DescriptorLookupHasNoSideEffect :
    (Instr.getDescriptorConfig 0 1 3 = .getDescriptorDevice 0 1
      ∨ Instr.getDescriptorConfig 0 1 3 = .getDescriptorConfig 0 1 3)
      ∧ (Instr.getDescriptorDevice 0 1 = .getDescriptorDevice 0 1
        ∨ Instr.getDescriptorDevice 0 1 = .getDescriptorConfig 0 1 3) := by decide

theorem witness_ControlReadAnswersZeros :
    State.reset.rdbuf.wf bufferFill rdbufSize = true ∧ (0 : BitVec 4).toNat ≤ 8
      ∧ (8 : BitVec 4).toNat ≤ 8 ∧ Memory.wf bufferFill rdbufSize [(0, 1), (6, 2)] = true := by decide

theorem witness_HostDataIsDiscarded :
    (0 : BitVec 4).toNat ≤ 8 ∧ (8 : BitVec 4).toNat ≤ 8 := by decide

theorem witness_EventsOutsideTheProtocolAreRefused :
    8 < (9 : BitVec 4).toNat ∧ 8 < (15 : BitVec 4).toNat := by decide

theorem witness_AnswersDoNotDependOnTheState :
    acceptedEvent ⟨1, 15, 0x0A21⟩ = true ∧ acceptedEvent ⟨2, 8, 0⟩ = true
      ∧ acceptedEvent ⟨3, 8, 0⟩ = true ∧ acceptedEvent ⟨4, 0, 0⟩ = true
      ∧ (at_ 0 60 true true).rdbuf.wf bufferFill rdbufSize = true
      ∧ State.reset.rdbuf.wf bufferFill rdbufSize = true := by decide

/-- A step of KICK, where the strobe rises, and one of SAMPLE, where it does not. -/
theorem witness_KickPulsesTheWatchdog :
    field (fun t => t.wdtKick) (step State.reset) = some true
      ∧ field (fun t => t.wdtKick) (step (withPins State.reset .sample Pins.idle)) = some false := by
  decide

theorem witness_PollRunsThePresentedEvent :
    Pins.idle.evtKind = 0 ∧ acceptedEvent (eventOf { Pins.idle with evtKind := 2, evtLen := 8 }) = true :=
  by decide

theorem witness_EmitFramesAPendingChange :
    (at_ 60 62 true false).inbuf.wf bufferFill inbufSize = true
      ∧ Memory.wf bufferFill inbufSize [(0, 9), (7, 0x7F)] = true := by decide

/-- The lowest and the highest key. -/
theorem witness_LowestPressedKeyWins :
    ((0b111111 : BitVec 6).getLsbD 0 = true ∧ ∀ j, j < 0 → (0b111111 : BitVec 6).getLsbD j = false)
      ∧ ((0b100000 : BitVec 6).getLsbD 5 = true
        ∧ ∀ j, j < 5 → (0b100000 : BitVec 6).getLsbD j = false) := by decide

/-- 95_test_vectors.md S8-4. -/
theorem witness_SamplingIsIdempotent :
    (withPins (at_ 60 60 false false) .sample { Pins.idle with keyN := 0b111110 }).changed = false
      ∧ sample (~~~(0b111110 : BitVec 6)) = (at_ 60 60 false false).lastReportedKey := by decide

/-- Both places of a Note-On. -/
theorem witness_packets_staged :
    (at_ 0 60 true false).inbuf.wf bufferFill inbufSize = true
      ∧ noteOnPosition (at_ 0 60 true false) = 0 ∧ noteOnPosition (at_ 60 60 true false) = 1 := by
  decide

theorem witness_SubmissionPortsCarryThePackets :
    build 60 60 ≠ [] ∧ build 60 0 ≠ [] ∧ build 0 60 ≠ []
      ∧ (withPins (at_ 60 60 true false) .emit { Pins.idle with inReady := true }).pins.inReady = true
      ∧ (at_ 60 60 true false).changed = true
      ∧ (at_ 60 60 true false).inbuf.wf bufferFill inbufSize = true := by decide

/-- A step that strobes, and one that completes an empty build without a strobe. -/
theorem witness_StrobeMeansAFramedChange :
    field (fun t => t.inSubmit)
        (step (withPins (at_ 0 60 true false) .emit { Pins.idle with inReady := true })) = some true
      ∧ field (fun t => (t.inSubmit, t.changed))
        (step (withPins (at_ 0 0 true false) .emit { Pins.idle with inReady := true }))
        = some (false, false) := by decide

/-- Each case of a build in a ready state with a pending change. -/
theorem witness_EmitStagesThroughThePacketRows :
    ∀ rep cur : Byte,
      (withPins (at_ rep cur true false) .emit { Pins.idle with inReady := true }).pins.inReady = true
        ∧ (at_ rep cur true false).changed = true ∧ (at_ rep cur true false).lastReportedKey = rep
        ∧ (at_ rep cur true false).currentKey = cur :=
  fun _ _ => ⟨rfl, rfl, rfl, rfl⟩

theorem witness_DecodeUndoesEncode :
    (Instr.getDescriptorConfig 0x1F 0xFF 0xFF).encodable = true
      ∧ (Instr.stdOther 1 0x1F 0x05 0xFF 0xFF).encodable = true
      ∧ (Instr.evtReserved67 1 15 0xFFFFFFFFFFFFFFFF).encodable = true
      ∧ (Instr.noteOn 0xFF).encodable = true := by decide

/-- The statements about the ROM as the build made it, with the first and last address of each
region. -/
theorem witness_rom_statements :
    State.reset.rom = [] ∧ 0x11 ≤ 0x11 ∧ ¬ (0x12 ≤ 0x11) ∧ (0x12 ≤ 0x76 ∧ 0x76 ≤ 0x76)
      ∧ (0x77 ≤ 0x77 ∧ 0x7F ≤ 0x7F) := by decide

theorem witness_RomIsNeverWritten :
    (∃ t, exec (.noteOn 60) State.reset = .next t) ∧ ∃ t, step State.reset = .next t :=
  ⟨⟨_, rfl⟩, _, rfl⟩

theorem witness_StepRunsTheDecodedRow :
    State.reset.pins.rst = false ∧ fetch State.reset = .ok .phaseKick ∧ State.reset.slot = none
      ∧ (State.reset.withFetchWord 8 0x08).slot = some ⟨.keyword, [0x08]⟩
      ∧ (State.reset.withFetchWord 8 0x08).pins.rst = false
      ∧ fetch (State.reset.withFetchWord 8 0x08) = .ok (.keySample65 0) := by decide

theorem witness_AssertedResetClearsEveryRegister :
    (withPins (at_ 60 62 true true) .poll { Pins.idle with rst := true }).pins.rst = true := rfl

theorem witness_EveryStepKeepsTheInvariant :
    State.reset.inv ∧ (∃ t, step State.reset = .next t)
      ∧ (withPins (at_ 60 62 true false) .emit { Pins.idle with inReady := true }).inv
      ∧ ∃ t, step (withPins (at_ 60 62 true false) .emit { Pins.idle with inReady := true }) = .next t :=
  ⟨⟨by decide, rfl⟩, ⟨_, rfl⟩, ⟨by decide, rfl⟩, _, rfl⟩

/-- A POLL step that presents an event, one that presents none, and a KICK step. -/
theorem witness_PhaseOrderIsFixed :
    field (fun t => t.phase)
        (step (withPins State.reset .poll { Pins.idle with evtKind := 3, evtLen := 8 })) = some .poll
      ∧ field (fun t => t.phase) (step (withPins State.reset .poll Pins.idle)) = some .sample
      ∧ field (fun t => t.phase) (step State.reset) = some .poll
      ∧ State.reset.slot = none ∧ State.reset.pins.rst = false := by decide

theorem witness_BlockNeverStops :
    State.reset.slot = none
      ∧ acceptedEvent (eventOf { Pins.idle with evtKind := 1, evtLen := 15 }) = true
      ∧ (withPins State.reset .emit { Pins.idle with rst := true }).slot = none := by decide

/-- The two ways a step stops: an event outside the protocol, and a slot that holds no row. -/
theorem witness_StepStopsOnlyOnARefusedEvent :
    refusal (step (withPins State.reset .poll { Pins.idle with evtKind := 2, evtLen := 9 }))
        = some (.refusedEngineEvent ⟨2, 9, 0⟩)
      ∧ refusal (step { State.reset with slot := some ⟨.keyword, [0x40]⟩ })
        = some (.undecodable ⟨.keyword, [0x40]⟩) := by decide

theorem witness_SubmitWhileBusyNeverHappens : State.reset.pins.inReady = false := rfl

/-- An EMIT that changes the reported key. -/
theorem witness_OnlyEmitWritesTheReportedKey :
    field (fun t => t.lastReportedKey)
        (step (withPins (at_ 60 0 true false) .emit { Pins.idle with inReady := true })) = some 0
      ∧ (withPins (at_ 60 0 true false) .emit { Pins.idle with inReady := true }).pins.rst = false
      ∧ (at_ 60 0 true false).lastReportedKey = 60 := by decide

/-- A SETUP that sets the flag, a submission of 8 that sets it and one of 4 that clears it. -/
theorem witness_OnlyTwoRulesWriteTheEmptyFrameFlag :
    field (fun t => t.pendingEmptyFrameRequired)
        (step (withPins State.reset .poll { Pins.idle with evtKind := 1, evtData := 0x0A21 }))
        = some true
      ∧ field (fun t => t.pendingEmptyFrameRequired)
        (step (withPins (at_ 60 60 true false) .emit { Pins.idle with inReady := true })) = some true
      ∧ field (fun t => t.pendingEmptyFrameRequired)
        (step (withPins (at_ 60 0 true true) .emit { Pins.idle with inReady := true }))
        = some false := by decide

/-- In SAMPLE every port but `rst` and `key_n` may differ. -/
theorem witness_InputsAreReadOnlyInTheirPhase :
    (withPins State.reset .sample Pins.idle).slot = none ∧ Pins.idle.rst = false
      ∧ ({ Pins.idle with evtKind := 7, inReady := true, romAddr := 5 } : Pins).keyN = Pins.idle.keyN
      ∧ ({ Pins.idle with evtKind := 7, inReady := true, romAddr := 5 } : Pins) ≠ Pins.idle := by
  decide

/-- Two events in the POLL of a tick. -/
def sampleTick (ready : Bool) : TickInputs := ⟨[⟨1, 0, 0x0A21⟩, ⟨4, 8, 0⟩], 0b111110, ready⟩

theorem witness_TickRunsAsItsPhases :
    State.reset.phase = .kick ∧ State.reset.inbuf.wf bufferFill inbufSize = true
      ∧ ∀ e ∈ (sampleTick true).events, acceptedEvent e = true := by decide

/-- The tick as one function: a class request, then key 0 reported (95_test_vectors.md S8-7). -/
theorem test_tick :
    tickRegs (sampleTick true) ⟨0, 0, false, false⟩ = ⟨60, 60, false, false⟩
      ∧ tickSubmission (sampleTick true) ⟨0, 0, false, false⟩ = [0x09, 0x90, 0x3C, 0x7F] := by decide

/-- Two busy ticks and then a ready one. -/
theorem witness_DeferredTransitionIsFramedWhenReady :
    (at_ 0 60 true false).phase = .kick
      ∧ (at_ 0 60 true false).inbuf.wf bufferFill inbufSize = true ∧ (at_ 0 60 true false).changed = true
      ∧ (∀ m, ∀ e ∈ (sampleTick (decide (2 ≤ m))).events, acceptedEvent e = true)
      ∧ (∀ m, m < 2 → (sampleTick (decide (2 ≤ m))).inReady = false)
      ∧ (sampleTick (decide (2 ≤ 2))).inReady = true :=
  ⟨rfl, rfl, rfl, fun _ => show ∀ e ∈ (sampleTick true).events, acceptedEvent e = true by decide,
    fun _ h => decide_eq_false (Nat.not_le.2 h), rfl⟩

/-- Ready at every tick, with a change pending from the start. -/
theorem witness_FairRunsFramePendingTransitions :
    (at_ 0 60 true false).phase = .kick
      ∧ (at_ 0 60 true false).inbuf.wf bufferFill inbufSize = true
      ∧ (∀ _ : Nat, ∀ e ∈ (sampleTick true).events, acceptedEvent e = true)
      ∧ readyInfinitelyOften (fun _ => sampleTick true)
      ∧ field (fun t => t.changed) (runTicks (fun _ => sampleTick true) (at_ 0 60 true false) 0)
        = some true :=
  ⟨rfl, rfl, fun _ => by decide, fun n => ⟨n, le_rfl, rfl⟩, rfl⟩

theorem witness_FirstTickReportsAHeldKey :
    (∀ e ∈ (sampleTick true).events, acceptedEvent e = true) ∧ (sampleTick true).inReady = true
      ∧ sample (~~~(sampleTick true).keyN) = 60 ∧ sample (~~~keysNone) = 0 := by decide

/-- A re-trigger, where both packets are heard. -/
theorem witness_HostHearsAtMostOneNote :
    field (fun t => t.submittedBytes)
        (step (withPins (at_ 60 60 true false) .emit { Pins.idle with inReady := true }))
        = some [0x08, 0x80, 0x3C, 0x00, 0x09, 0x90, 0x3C, 0x7F]
      ∧ (at_ 60 60 true false).inbuf.wf bufferFill inbufSize = true
      ∧ (withPins (at_ 60 60 true false) .emit { Pins.idle with inReady := true }).pins.rst = false := by
  decide

end Sys2Proof.Tests
end

section
/-!
The descriptor lookups (40_descriptor_rom.md R120 to R122): what a lookup writes, when a SETUP is
the configuration row, and the obligations of this family.
-/

namespace Sys2Proof

/-- A word that matches row 2 of 30_encoding.md R75 and is not row 1's decodes to the fallback. -/
theorem decodeSetup_of_matches_config {sw : Word32} (hm : sw &&& 0x0000FFE0 = 0x00000680)
    (hd : swDtype sw ≠ 0x01) :
    decodeSetup sw = .getDescriptorConfig (swRecipient sw) (swValueLo sw) (swDtype sw) := by
  obtain ⟨hdir, htype, hreq⟩ := (setupMatches_getDescriptorConfig sw).1 (beq_iff_eq.2 hm)
  have hc : classify sw = .getDescriptorConfig := by
    rw [classify_eq_fields, if_pos htype, if_pos ⟨hdir, hreq⟩, if_neg hd]
  rw [decodeSetup, hc]

end Sys2Proof

namespace Sys2Proof.Machine

/-! ## The lookups -/

@[simp] theorem exec_getDescriptorDevice (r : BitVec 5) (v : Byte) (s : State) :
    exec (.getDescriptorDevice r v) s = .next (s.respondDescriptor deviceBase deviceLen) := rfl

@[simp] theorem exec_getDescriptorConfig (r : BitVec 5) (v d : Byte) (s : State) :
    exec (.getDescriptorConfig r v d) s
      = .next (s.respondDescriptor configurationBase configurationLen) := rfl

/-- A SETUP event runs the row its first four bytes decode to (41_protocol_handler.md R130). -/
theorem exec_evtSetup_eq_exec_decodeSetup (len : BitVec 4) (data : Payload) (s : State) :
    exec (.evtSetup len data) s = exec (decodeSetup (swOf data)) s := by
  change dispatchSetup (swOf data) s = _
  unfold dispatchSetup decodeSetup
  cases classify (swOf data) <;> rfl

/-- Either lookup is one constant answer, the same from every state. -/
theorem exec_lookup_eq_respondDescriptor {i : Instr} {r : BitVec 5} {v d : Byte}
    (hi : i = .getDescriptorDevice r v ∨ i = .getDescriptorConfig r v d) :
    ∃ base len, ∀ s : State, exec i s = .next (s.respondDescriptor base len) := by
  obtain rfl | rfl := hi
  · exact ⟨deviceBase, deviceLen, exec_getDescriptorDevice r v⟩
  · exact ⟨configurationBase, configurationLen, exec_getDescriptorConfig r v d⟩

/-! ## What a DESCRIPTOR answer leaves -/

@[simp] theorem State.respondDescriptor_regs (s : State) (base len : Nat) :
    (s.respondDescriptor base len).regs = s.regs := rfl

@[simp] theorem State.respondDescriptor_romByte (s : State) (base len a : Nat) :
    (s.respondDescriptor base len).romByte a = s.romByte a := rfl

@[simp] theorem State.respondDescriptor_inbufByte (s : State) (base len a : Nat) :
    (s.respondDescriptor base len).inbufByte a = s.inbufByte a := rfl

@[simp] theorem State.respondDescriptor_rdbufByte (s : State) (base len a : Nat) :
    (s.respondDescriptor base len).rdbufByte a = s.rdbufByte a := rfl

/-- Giving the same answer twice is giving it once. -/
@[simp] theorem State.respondDescriptor_respondDescriptor (s : State) (base len : Nat) :
    (s.respondDescriptor base len).respondDescriptor base len = s.respondDescriptor base len := rfl

/-! ## The obligations -/

/-- Settles O5: row 2's mask and a type other than 0x01 make the SETUP the configuration row, whose
answer does not read its operands. -/
theorem everyOtherTypeGetsConfigurationDescriptor :
    Obligations.EveryOtherTypeGetsConfigurationDescriptor := by
  refine ⟨fun r v d s _ => exec_getDescriptorConfig r v d s, fun len data s hm hd => ?_⟩
  rw [exec_evtSetup_eq_exec_decodeSetup, decodeSetup_of_matches_config hm hd]
  exact exec_getDescriptorConfig _ _ _ s

/-- Settles O6: a lookup writes the three answer ports alone, with constants, so a second one
changes nothing. -/
theorem descriptorLookupHasNoSideEffect : Obligations.DescriptorLookupHasNoSideEffect := by
  intro i r v d s hi
  obtain ⟨base, len, hexec⟩ := exec_lookup_eq_respondDescriptor hi
  have again : exec i (s.respondDescriptor base len) = .next (s.respondDescriptor base len) := by
    rw [hexec, State.respondDescriptor_respondDescriptor]
  exact ⟨s.respondDescriptor base len, hexec s, s.respondDescriptor_regs base len,
    s.respondDescriptor_phase base len, s.respondDescriptor_romByte base len,
    s.respondDescriptor_inbufByte base len, s.respondDescriptor_rdbufByte base len, again⟩

end Sys2Proof.Machine
end

section
/-!
The class host-to-device request (41_protocol_handler.md R131) and who may change the empty-frame
flag after it: the row, the SETUP words that decode to it, what the other rows do to a set flag, and
the obligation of this family.
-/

namespace Sys2Proof

/-- A word that matches row 4 of 30_encoding.md R75 decodes to it: no earlier row takes its type. -/
theorem decodeSetup_of_matches_classH2d {sw : Word32} (hm : sw &&& 0xE0 = 0x20) :
    decodeSetup sw
      = .classH2d (swRecipient sw) (swRequest sw) (swValueLo sw) (swDtype sw) := by
  obtain ⟨hdir, htype⟩ := (setupMatches_classH2d sw).1 (beq_iff_eq.2 hm)
  have hc : classify sw = .classH2d := by
    rw [classify_eq_fields, htype, if_neg (by decide), if_pos rfl, if_pos hdir]
  rw [decodeSetup, hc]

end Sys2Proof

namespace Sys2Proof.Machine

@[simp] theorem exec_classH2d (r : BitVec 5) (b v d : Byte) (s : State) :
    exec (.classH2d r b v d) s = .next (s.expectEmptyFrame.respond dataFollows) := rfl

/-! ## A set empty-frame flag (10_state.md R24) -/

/-- No engine event clears the empty-frame flag: a SETUP may set it, and the others leave it. -/
theorem runEvent_keeps_emptyFrame_set {e : EngineEvent} {s t : State} (h : runEvent e s = .next t)
    (hset : s.pendingEmptyFrameRequired = true) : t.pendingEmptyFrameRequired = true := by
  obtain ⟨-, -, -, -, -, -, -, -, -, -, -, -, -, hflag⟩ := runEvent_next h
  rw [hflag, hset, ite_self]

/-- EMIT leaves the empty-frame flag unless it frames, and then it strobes a submission. -/
theorem execPhaseEmit_keeps_emptyFrame_or_submits {s t : State} (h : execPhaseEmit s = .next t) :
    t.pendingEmptyFrameRequired = s.pendingEmptyFrameRequired ∨ t.inSubmit = true := by
  rw [execPhaseEmit_eq] at h
  cases h
  split
  · split
    · exact .inl rfl
    · exact .inr rfl
  · exact .inl rfl

/-- No row clears the empty-frame flag without a submission: the events never clear it, EMIT does so
only as it submits, CLASS_H2D sets it and every other row does not write it. -/
theorem exec_keeps_emptyFrame_set_or_submits {i : Instr} {s t : State} (h : exec i s = .next t)
    (hset : s.pendingEmptyFrameRequired = true) :
    t.pendingEmptyFrameRequired = true ∨ t.inSubmit = true := by
  cases i
  case evtSetup l d => exact .inl (runEvent_keeps_emptyFrame_set (e := ⟨1, l, d⟩) h hset)
  case evtCtrlRead l d => exact .inl (runEvent_keeps_emptyFrame_set (e := ⟨2, l, d⟩) h hset)
  case evtCtrlWrite l d => exact .inl (runEvent_keeps_emptyFrame_set (e := ⟨3, l, d⟩) h hset)
  case evtIntOut l d => exact .inl (runEvent_keeps_emptyFrame_set (e := ⟨4, l, d⟩) h hset)
  case evtReserved5 | evtReserved67 => cases h
  case phasePoll => exact .inl (runEvent_keeps_emptyFrame_set h hset)
  case phaseEmit => exact (execPhaseEmit_keeps_emptyFrame_or_submits h).imp_left (·.trans hset)
  all_goals
    cases h
    simp [hset]

/-- A step after which a set empty-frame flag reads 0 is a reset or made a submission. -/
theorem step_clears_emptyFrame {s t : State} (h : step s = .next t)
    (hset : s.pendingEmptyFrameRequired = true) (hclear : t.pendingEmptyFrameRequired = false) :
    s.pins.rst = true ∨ t.inSubmit = true := by
  obtain ⟨hrst, -⟩ | ⟨i, u, -, -, hexec, rfl⟩ := step_eq_next h
  · exact .inl hrst
  · rw [State.drivePins_pendingEmptyFrameRequired] at hclear
    rw [State.drivePins_inSubmit]
    have hu := exec_keeps_emptyFrame_set_or_submits hexec hset
    rw [hclear] at hu
    exact .inr (hu.resolve_left Bool.false_ne_true)

/-! ## The obligation -/

/-- Settles O1: row 4's mask makes the SETUP the class host-to-device row, whose answer does not read
its operands, and of the rows EMIT alone clears the flag, as it submits. -/
theorem classOutRequestSetsEmptyFrameFlag : Obligations.ClassOutRequestSetsEmptyFrameFlag := by
  refine ⟨exec_classH2d, fun len data s hm => ?_, fun _ => rfl,
    fun _ _ => step_clears_emptyFrame⟩
  rw [exec_evtSetup_eq_exec_decodeSetup, decodeSetup_of_matches_classH2d hm]
  exact exec_classH2d _ _ _ _ s

end Sys2Proof.Machine
end

section
/-!
The key tracker (42_key_tracker.md R161, R163, R164): the scan for the lowest pressed key, the edge
detector, who writes the reported key, and the obligations of this family.
-/

namespace Sys2Proof.Machine

/-! ## The scan (R161) -/

/-- A scan that meets no pressed key answers "no key". -/
theorem sampleFrom_eq_noKey {p : BitVec 6} {n lo : Nat}
    (hclear : ∀ j, lo ≤ j → j < lo + n → p.getLsbD j = false) : sampleFrom p lo n = noKey := by
  induction n generalizing lo with
  | zero => rfl
  | succ n ih =>
    rw [sampleFrom, hclear lo le_rfl (by omega), if_neg Bool.false_ne_true]
    exact ih fun j hj hn => hclear j (by omega) (by omega)

/-- A scan answers the note of the first pressed key it meets. -/
theorem sampleFrom_eq_noteOfKey {p : BitVec 6} {n lo k : Nat} (hlo : lo ≤ k) (hk : k < lo + n)
    (hset : p.getLsbD k = true) (hclear : ∀ j, lo ≤ j → j < k → p.getLsbD j = false) :
    sampleFrom p lo n = noteOfKey k := by
  induction n generalizing lo with
  | zero => omega
  | succ n ih =>
    rw [sampleFrom]
    obtain rfl | hlt := hlo.eq_or_lt
    · rw [if_pos hset]
    · rw [hclear lo le_rfl hlt, if_neg Bool.false_ne_true]
      exact ih hlt (by omega) fun j hj hjk => hclear j (by omega) hjk

theorem sample_zero : sample 0 = noKey :=
  sampleFrom_eq_noKey fun _ _ _ => BitVec.getLsbD_zero

theorem sample_eq_noteOfKey {p : BitVec 6} {k : Nat} (hk : k < 6) (hset : p.getLsbD k = true)
    (hclear : ∀ j, j < k → p.getLsbD j = false) : sample p = noteOfKey k :=
  sampleFrom_eq_noteOfKey (Nat.zero_le k) (by omega) hset fun j _ => hclear j

/-- A byte that is neither a note nor "no key" is never sampled. -/
theorem sample_ne_of_not_isNoteOrNone {b : Byte} (hb : isNoteOrNone b = false) (p : BitVec 6) :
    sample p ≠ b := by
  rintro rfl
  exact Bool.false_ne_true (hb.symm.trans (isNoteOrNone_sample p))

theorem noteOfKey_lt_noteOfKey : ∀ j < 6, ∀ i < j, (noteOfKey i).toNat < (noteOfKey j).toNat := by
  decide

/-! ## The edge detector (R163) -/

theorem changedAfterSample_eq_ite (changed : Bool) (cur rep : Byte) :
    changedAfterSample changed cur rep = if cur ≠ rep then true else changed := by
  unfold changedAfterSample
  by_cases h : cur = rep <;> simp [h]

theorem State.detectEdge_eq (s : State) :
    s.detectEdge
      = { s with changed := if s.currentKey ≠ s.lastReportedKey then true else s.changed } := by
  rw [State.detectEdge, changedAfterSample_eq_ite]

theorem exec_phaseSample (s : State) :
    exec .phaseSample s
      = .next ((s.setCurrentKey (sample (~~~s.pins.keyN))).detectEdge.setPhase .emit) := rfl

/-! ## Who writes the reported key (R164) -/

theorem runEvent_keeps_lastReportedKey {e : EngineEvent} {s t : State}
    (h : runEvent e s = .next t) : t.lastReportedKey = s.lastReportedKey :=
  (runEvent_next h).1

/-- No row but PHASE_EMIT writes the reported key. -/
theorem exec_keeps_lastReportedKey_or_emits {i : Instr} {s t : State} (h : exec i s = .next t) :
    t.lastReportedKey = s.lastReportedKey ∨ i = .phaseEmit := by
  cases i
  case evtSetup l d => exact .inl (runEvent_keeps_lastReportedKey (e := ⟨1, l, d⟩) h)
  case evtCtrlRead l d => exact .inl (runEvent_keeps_lastReportedKey (e := ⟨2, l, d⟩) h)
  case evtCtrlWrite l d => exact .inl (runEvent_keeps_lastReportedKey (e := ⟨3, l, d⟩) h)
  case evtIntOut l d => exact .inl (runEvent_keeps_lastReportedKey (e := ⟨4, l, d⟩) h)
  case evtReserved5 | evtReserved67 => cases h
  case phasePoll => exact .inl (runEvent_keeps_lastReportedKey h)
  case phaseEmit => exact .inr rfl
  all_goals
    cases h
    simp

/-- An EMIT after which the reported key is another one framed a pending change. An empty framing
(44_main_loop.md R204, D22) reports no key after no key, so it is not one. -/
theorem execPhaseEmit_of_lastReportedKey_ne {s t : State} (h : execPhaseEmit s = .next t)
    (hne : t.lastReportedKey ≠ s.lastReportedKey) :
    s.pins.inReady = true ∧ s.changed = true ∧ t.lastReportedKey = s.currentKey
      ∧ t.changed = false ∧ t.inSubmit = true := by
  rw [execPhaseEmit_eq] at h
  by_cases hframe : s.pins.inReady = true ∧ s.changed = true
  · obtain ⟨hready, hchanged⟩ := hframe
    rw [if_pos ⟨hready, hchanged⟩] at h
    by_cases hempty : frameLen s.lastReportedKey s.currentKey = 0
    · obtain ⟨hrep, hcur⟩ := frameLen_eq_zero.1 hempty
      rw [if_pos hempty] at h
      cases h
      exact absurd (hcur.trans hrep.symm) hne
    · rw [if_neg hempty] at h
      cases h
      exact ⟨hready, hchanged, by simp, rfl, rfl⟩
  · rw [if_neg hframe] at h
    cases h
    exact absurd rfl hne

/-! ## The obligations -/

/-- Settles O46: of the rows EMIT alone writes the reported key, and where that changes it, it had
framed; the begin of the step and the driving of the ports leave what the statement names. -/
theorem onlyEmitWritesTheReportedKey : Obligations.OnlyEmitWritesTheReportedKey := by
  intro s t hrst hstep hne
  obtain ⟨hreset, -⟩ | ⟨i, u, -, hfetch, hexec, rfl⟩ := step_eq_next hstep
  · exact absurd (hrst.symm.trans hreset) Bool.false_ne_true
  · rw [State.drivePins_lastReportedKey] at hne
    obtain hkeep | rfl := exec_keeps_lastReportedKey_or_emits hexec
    · exact absurd hkeep hne
    · obtain ⟨hready, hchanged, hrep, hclear, hsubmit⟩ :=
        execPhaseEmit_of_lastReportedKey_ne hexec hne
      exact ⟨hfetch, hready, hchanged, by simpa using hrep, by simpa using hclear,
        by simpa using hsubmit⟩

/-- Settles O17: the scan runs from bit 0 upward, and 71 and 72 are no notes of the block. -/
theorem lowestPressedKeyWins : Obligations.LowestPressedKeyWins :=
  ⟨sample_zero, fun _ _ => sample_eq_noteOfKey,
    fun p => ⟨sample_ne_of_not_isNoteOrNone (by decide) p,
      sample_ne_of_not_isNoteOrNone (by decide) p⟩,
    fun i j hij hj => noteOfKey_lt_noteOfKey j hj i hij⟩

/-- Settles O19: the flag's disjunction is the rule's conditional assignment. -/
theorem edgeDetectComparesWithTheReportedKey :
    Obligations.EdgeDetectComparesWithTheReportedKey :=
  ⟨State.detectEdge_eq, exec_phaseSample⟩

end Sys2Proof.Machine
end

section
/-!
The packet builder (43_packet_builder.md R180 to R182): the bytes of its packets, how many a build
has, and the obligation of this family.
-/

namespace Sys2Proof.Machine

/-! ## The bytes of a build (R180 to R182) -/

@[simp] theorem packetBytes_noteOffPacket (k : Byte) :
    packetBytes (noteOffPacket k) = [0x08, 0x80, k, 0x00] := rfl

@[simp] theorem packetBytes_noteOnPacket (k : Byte) :
    packetBytes (noteOnPacket k) = [0x09, 0x90, k, 0x7F] := rfl

theorem map_packetBytes_build (prev cur : Byte) :
    (build prev cur).map packetBytes
      = (if prev ≠ noKey then [[0x08, 0x80, prev, 0x00]] else [])
        ++ (if cur ≠ noKey then [[0x09, 0x90, cur, 0x7F]] else []) := by
  by_cases hp : prev = noKey
  · subst hp
    by_cases hc : cur = noKey
    · subst hc
      simp
    · simp [build_noKey_note hc, hc]
  · by_cases hc : cur = noKey
    · subst hc
      simp [build_note_noKey hp, hp]
    · simp [build_note_note hp hc, hp, hc]

/-! ## The number of packets (R180) -/

theorem length_build_le (prev cur : Byte) : (build prev cur).length ≤ 2 := by
  have hbytes : packetLen * (build prev cur).length ≤ 8 := frameLen_le prev cur
  unfold packetLen at hbytes
  omega

theorem build_eq_nil_iff {prev cur : Byte} : build prev cur = [] ↔ prev = noKey ∧ cur = noKey := by
  have hlen : frameLen prev cur = 0 ↔ build prev cur = [] := by simp [frameLen, packetLen]
  exact hlen.symm.trans frameLen_eq_zero

/-! ## The obligation -/

/-- Settles O21: the bytes by the four cases of a build, the bound and the empty build by the byte
count of the framing. -/
theorem buildMakesOffThenOn : Obligations.BuildMakesOffThenOn := fun prev cur =>
  ⟨map_packetBytes_build prev cur, length_build_le prev cur, build_eq_nil_iff⟩

end Sys2Proof.Machine
end

section
/-!
The tick's first and third phase (44_main_loop.md R200, R202): who raises the watchdog strobe, what
SAMPLE writes, and the obligations of this family.
-/

namespace Sys2Proof.Machine

/-! ## The watchdog strobe (R200, 10_state.md R37) -/

@[simp] theorem exec_phaseKick (s : State) :
    exec .phaseKick s = .next (s.kickWatchdog.setPhase .poll) := rfl

theorem runEvent_keeps_wdtKick {e : EngineEvent} {s t : State} (h : runEvent e s = .next t) :
    t.wdtKick = s.wdtKick := by
  obtain ⟨-, -, -, -, -, -, -, -, -, -, hkick, -⟩ := runEvent_next h
  exact hkick

/-- EMIT drives the submission's strobe alone. -/
theorem execPhaseEmit_keeps_wdtKick {s t : State} (h : execPhaseEmit s = .next t) :
    t.wdtKick = s.wdtKick := by
  rw [execPhaseEmit_eq] at h
  cases h
  split
  · split <;> simp
  · simp

/-- No row but PHASE_KICK writes the watchdog strobe. -/
theorem exec_keeps_wdtKick_of_ne_phaseKick {i : Instr} {s t : State} (h : exec i s = .next t)
    (hne : i ≠ .phaseKick) : t.wdtKick = s.wdtKick := by
  cases i
  case evtSetup l d => exact runEvent_keeps_wdtKick (e := ⟨1, l, d⟩) h
  case evtCtrlRead l d => exact runEvent_keeps_wdtKick (e := ⟨2, l, d⟩) h
  case evtCtrlWrite l d => exact runEvent_keeps_wdtKick (e := ⟨3, l, d⟩) h
  case evtIntOut l d => exact runEvent_keeps_wdtKick (e := ⟨4, l, d⟩) h
  case evtReserved5 | evtReserved67 => cases h
  case phaseKick => exact absurd rfl hne
  case phasePoll => exact runEvent_keeps_wdtKick h
  case phaseEmit => exact execPhaseEmit_keeps_wdtKick h
  all_goals
    cases h
    simp

/-- A row run with the strobe at 0 ends with it at 1 exactly if it is PHASE_KICK. -/
theorem exec_raises_wdtKick_iff {i : Instr} {s t : State} (h : exec i s = .next t)
    (hlow : s.wdtKick = false) : t.wdtKick = true ↔ i = .phaseKick := by
  by_cases hi : i = .phaseKick
  · subst hi
    rw [exec_phaseKick] at h
    cases h
    simp
  · simp [exec_keeps_wdtKick_of_ne_phaseKick h hi, hlow, hi]

/-- A step begins with the strobe at 0, so after it the strobe is 1 exactly if the step ran
PHASE_KICK; a reset leaves it at 0. -/
theorem step_raises_wdtKick_iff {s t : State} (h : step s = .next t) :
    t.wdtKick = true ↔ s.pins.rst = false ∧ fetch s = .ok .phaseKick := by
  obtain ⟨hrst, rfl⟩ | ⟨i, u, hrst, hfetch, hexec, rfl⟩ := step_eq_next h
  · simp [hrst]
  · rw [State.drivePins_wdtKick, exec_raises_wdtKick_iff hexec s.beginStep_wdtKick]
    simp [hrst, hfetch]

/-! ## The obligations -/

/-- Settles O13: of the rows KICK alone writes the strobe, and every step begins with it at 0. -/
theorem kickPulsesTheWatchdog : Obligations.KickPulsesTheWatchdog :=
  ⟨exec_phaseKick, fun _ _ => step_raises_wdtKick_iff⟩

/-- Settles O15: the edge detector compares the key just written with the reported one, which
SAMPLE leaves. -/
theorem sampleFollowsTheKeys : Obligations.SampleFollowsTheKeys := by
  intro s
  rw [exec_phaseSample, State.detectEdge_eq]
  rfl

end Sys2Proof.Machine
end

section
/-!
The encodings (30_encoding.md R75, R77, R78, 42_key_tracker.md R161): each format's decoder undoes
the encoder on its own rows, the SETUP table's first-match rule, and the obligations of this family.
-/

namespace Sys2Proof

/-! ## SETUP words (R74, R75) -/

theorem encodable_getDescriptorConfig {r : BitVec 5} {v d : Byte} :
    (Instr.getDescriptorConfig r v d).encodable = true ↔ d ≠ 1 := by
  simp [Instr.encodable]

theorem encodable_stdOther {dir : BitVec 1} {r : BitVec 5} {b v d : Byte} :
    (Instr.stdOther dir r b v d).encodable = true ↔ ¬ (dir = 1 ∧ b = 6) := by
  simp [Instr.encodable, imp_iff_not_or]

/-- Outside the operand values an earlier row of R75 takes, a SETUP row is read back. -/
theorem decodeBytes_encode_setup {i : Instr} (hformat : i.format = .setupSw)
    (hi : i.encodable = true) : decodeBytes .setupSw (encode i) = .ok i := by
  cases i
  case getDescriptorConfig r v d =>
    rw [encode, decodeBytes_packSw, decodeSetup_word32, if_pos rfl, if_pos ⟨rfl, rfl⟩,
      if_neg (encodable_getDescriptorConfig.1 hi)]
  case stdOther dir r b v d =>
    rw [encode, decodeBytes_packSw, decodeSetup_word32, if_pos rfl,
      if_neg (encodable_stdOther.1 hi)]
  case getDescriptorDevice | classH2d | classD2h | vendorH2d | vendorD2h | reservedH2d
      | reservedD2h =>
    rw [encode, decodeBytes_packSw, decodeSetup_word32]
    simp
  all_goals cases hformat

theorem eq_three_of_ne {x : BitVec 2} (h0 : x ≠ 0) (h1 : x ≠ 1) (h2 : x ≠ 2) : x = 3 := by
  revert x; decide

/-- A word laid out from its fields decodes to an encodable row with those fields: the branches of
R75 fix the fields that the row does not carry. -/
theorem encode_decodeSetup_fields (dir : BitVec 1) (type : BitVec 2) (r : BitVec 5) (b v d : Byte) :
    (decodeSetup (word32 (dir ++ type ++ r) b v d)).encodable = true
      ∧ encode (decodeSetup (word32 (dir ++ type ++ r) b v d)) = packSw dir type r b v d := by
  rw [decodeSetup_word32]
  split_ifs with ht hget hd ht1 hdir ht2 hdir hdir
  · obtain ⟨rfl, rfl⟩ := hget
    subst ht hd
    exact ⟨rfl, rfl⟩
  · obtain ⟨rfl, rfl⟩ := hget
    subst ht
    exact ⟨encodable_getDescriptorConfig.2 hd, rfl⟩
  · subst ht
    exact ⟨encodable_stdOther.2 hget, rfl⟩
  · subst ht1 hdir
    exact ⟨rfl, rfl⟩
  · obtain rfl := (BitVec.eq_zero_or_eq_one dir).resolve_left hdir
    subst ht1
    exact ⟨rfl, rfl⟩
  · subst ht2 hdir
    exact ⟨rfl, rfl⟩
  · obtain rfl := (BitVec.eq_zero_or_eq_one dir).resolve_left hdir
    subst ht2
    exact ⟨rfl, rfl⟩
  · obtain rfl := eq_three_of_ne ht ht1 ht2
    subst hdir
    exact ⟨rfl, rfl⟩
  · obtain rfl := eq_three_of_ne ht ht1 ht2
    obtain rfl := (BitVec.eq_zero_or_eq_one dir).resolve_left hdir
    exact ⟨rfl, rfl⟩

/-- A word that the first eight rows of R75 leave has type 3, device to host, and matches row 9. -/
theorem setupMatches_reservedD2h_of_no_other {sw : Word32}
    (h3 : setupMatches .stdOther sw = false) (h4 : setupMatches .classH2d sw = false)
    (h5 : setupMatches .classD2h sw = false) (h6 : setupMatches .vendorH2d sw = false)
    (h7 : setupMatches .vendorD2h sw = false) (h8 : setupMatches .reservedH2d sw = false) :
    setupMatches .reservedD2h sw = true := by
  simp only [← Bool.not_eq_true, setupMatches_stdOther, setupMatches_classH2d,
    setupMatches_classD2h, setupMatches_vendorH2d, setupMatches_vendorD2h,
    setupMatches_reservedH2d] at h3 h4 h5 h6 h7 h8
  rw [setupMatches_reservedD2h]
  generalize swDir sw = d at *
  generalize swType sw = t at *
  revert d t
  decide

/-! ## Packets (R77) -/

/-- A Note-Off packet as one word. -/
theorem word32_noteOff (k : Byte) :
    word32 0x08 0x80 k 0x00 = (0x00008008 ||| (k.setWidth 32 <<< 16)) := by
  revert k; decide

/-- A Note-On packet as one word. -/
theorem word32_noteOn (k : Byte) :
    word32 0x09 0x90 k 0x7F = (0x7F009009 ||| (k.setWidth 32 <<< 16)) := by
  revert k; decide

theorem decodePacket_noteOff (k : Byte) :
    decodePacket (word32 0x08 0x80 k 0x00) = .ok (.noteOff k) := by
  revert k; decide

theorem decodePacket_noteOn (k : Byte) :
    decodePacket (word32 0x09 0x90 k 0x7F) = .ok (.noteOn k) := by
  revert k; decide

/-! ## Events, key words and phase codes (log 11) -/

theorem decodeBytes_encode_evt {i : Instr} (hformat : i.format = .evt) :
    decodeBytes .evt (encode i) = .ok i := by
  cases i
  case evtReserved67 low l d =>
    rw [encode, decodeBytes_packEvent]
    obtain rfl | rfl := BitVec.eq_zero_or_eq_one low
    all_goals rfl
  case evtNone | evtSetup | evtCtrlRead | evtCtrlWrite | evtIntOut | evtReserved5 =>
    exact decodeBytes_packEvent _ _ _
  all_goals cases hformat

theorem decodeBytes_encode_pkt32 {i : Instr} (hformat : i.format = .pkt32) :
    decodeBytes .pkt32 (encode i) = .ok i := by
  cases i
  case noteOff k => exact decodePacket_noteOff k
  case noteOn k => exact decodePacket_noteOn k
  all_goals cases hformat

/-- The pressed bits above the winning key are the operand; at most 32 values each. -/
theorem decodeBytes_encode_keyword {i : Instr} (hformat : i.format = .keyword) :
    decodeBytes .keyword (encode i) = .ok i := by
  cases i
  case keySample60 a | keySample62 a | keySample64 a | keySample65 a | keySample67 a =>
    revert a; decide
  case keySample69 | keySampleNone => rfl
  all_goals cases hformat

theorem decodeBytes_encode_phase {i : Instr} (hformat : i.format = .phase) :
    decodeBytes .phase (encode i) = .ok i := by
  cases i
  case phaseKick | phasePoll | phaseSample | phaseEmit => rfl
  all_goals cases hformat

/-! ## The obligations -/

/-- Settles O29, format by format. -/
theorem decodeUndoesEncode : Obligations.DecodeUndoesEncode := by
  intro i hi
  cases hformat : i.format
  case setupSw => exact decodeBytes_encode_setup hformat hi
  case evt => exact decodeBytes_encode_evt hformat
  case pkt32 => exact decodeBytes_encode_pkt32 hformat
  case keyword => exact decodeBytes_encode_keyword hformat
  case phase => exact decodeBytes_encode_phase hformat

/-- Settles O30: every first byte is laid out from its three fields. -/
theorem encodeUndoesSetupDecode : Obligations.EncodeUndoesSetupDecode := by
  intro s0 s1 s2 s3
  obtain ⟨henc, hbytes⟩ := encode_decodeSetup_fields (s0.extractLsb' 7 1) (s0.extractLsb' 5 2)
    (s0.extractLsb' 0 5) s1 s2 s3
  rw [packSw] at hbytes
  rw [requestType_fields] at henc hbytes
  exact ⟨henc, hbytes⟩

/-- Settles O8: the classifier tests the rows in the table's order, and the word that the first eight
leave matches the ninth. -/
theorem everyWordHasItsFirstMatchingRow : Obligations.EveryWordHasItsFirstMatchingRow := by
  intro sw
  change Machine.setupOrder.find? (fun c => setupMatches c sw) = some (classify sw)
  simp only [Machine.setupOrder, List.find?_cons, List.find?_nil, classify]
  split_ifs <;> simp_all [setupMatches_reservedD2h_of_no_other]

/-- Settles O25. -/
theorem packetWordsAreTheTables : Obligations.PacketWordsAreTheTables := by
  intro k
  rw [← word32_noteOff, ← word32_noteOn]
  exact ⟨rfl, rfl, decodePacket_noteOff k, decodePacket_noteOn k⟩

/-- Settles O31, by evaluation: each word is written out. -/
theorem writtenWordsDecodeToTheirRows : Obligations.WrittenWordsDecodeToTheirRows := by
  unfold Obligations.WrittenWordsDecodeToTheirRows
  decide

end Sys2Proof
end

section
/-!
The engine events (41_protocol_handler.md sections 1, 2, 3 and 5, 44_main_loop.md R201,
60_exceptions.md R222): the rows of the SETUP table, the data stages, what POLL runs, and the
obligations of this family.
-/

namespace Sys2Proof

/-! ## SETUP words by their rows (30_encoding.md R75) -/

theorem decodeSetup_of_matches_device {sw : Word32} (hm : sw &&& 0xFF00FFE0 = 0x01000680) :
    decodeSetup sw = .getDescriptorDevice (swRecipient sw) (swValueLo sw) := by
  obtain ⟨hdir, htype, hreq, hdtype⟩ := (setupMatches_getDescriptorDevice sw).1 (beq_iff_eq.2 hm)
  have hc : classify sw = .getDescriptorDevice := by
    rw [classify_eq_fields, if_pos htype, if_pos ⟨hdir, hreq⟩, if_pos hdtype]
  rw [decodeSetup, hc]

/-- A word of standard type that is no device-to-host GET_DESCRIPTOR decodes to row 3. -/
theorem decodeSetup_of_matches_stdOther {sw : Word32} (hm : sw &&& 0x60 = 0)
    (hget : sw &&& 0xFFE0 ≠ 0x680) :
    decodeSetup sw = .stdOther (swDir sw) (swRecipient sw) (swRequest sw) (swValueLo sw)
      (swDtype sw) := by
  have htype : swType sw = 0 := (setupMatches_stdOther sw).1 (beq_iff_eq.2 hm)
  have hnot : ¬ (swDir sw = 1 ∧ swRequest sw = 6) := fun ⟨hdir, hreq⟩ =>
    hget (beq_iff_eq.1 ((setupMatches_getDescriptorConfig sw).2 ⟨hdir, htype, hreq⟩))
  have hc : classify sw = .stdOther := by
    rw [classify_eq_fields, if_pos htype, if_neg hnot]
  rw [decodeSetup, hc]

end Sys2Proof

namespace Sys2Proof.Machine

/-! ## The events inside the protocol (30_encoding.md R78, R79) -/

theorem lenInProtocol_iff {len : BitVec 4} : lenInProtocol len = true ↔ len.toNat ≤ 8 :=
  decide_eq_true_iff

theorem acceptedEvent_eq_true_iff {k : BitVec 3} {l : BitVec 4} {d : Payload} :
    acceptedEvent ⟨k, l, d⟩ = true ↔ k = 1 ∨ ((k = 2 ∨ k = 3 ∨ k = 4) ∧ lenInProtocol l = true) := by
  simp [acceptedEvent, or_assoc]

theorem exec_evtCtrlRead {len : BitVec 4} (h : lenInProtocol len = true) (data : Payload)
    (s : State) : exec (.evtCtrlRead len data) s = .next (s.fillRdbuf.answerRead len) :=
  if_pos h

theorem exec_evtCtrlWrite {len : BitVec 4} (h : lenInProtocol len = true) (data : Payload)
    (s : State) : exec (.evtCtrlWrite len data) s = .next s.answerWrite :=
  if_pos h

theorem exec_evtIntOut {len : BitVec 4} (h : lenInProtocol len = true) (data : Payload)
    (s : State) : exec (.evtIntOut len data) s = .next s :=
  if_pos h

/-! ## The events outside it (60_exceptions.md R222) -/

/-- An event that is neither NONE nor accepted is refused, with the event. -/
theorem runEvent_of_not_accepted {e : EngineEvent} (s : State) (hkind : e.kind ≠ 0)
    (h : acceptedEvent e = false) : runEvent e s = .refused (.refusedEngineEvent e) := by
  obtain ⟨k, l, d⟩ := e
  rw [← Bool.not_eq_true, acceptedEvent_eq_true_iff] at h
  unfold runEvent
  dsimp only at hkind ⊢
  split
  case h_1 => exact absurd rfl hkind
  case h_2 => exact absurd (.inl rfl) h
  case h_3 => exact if_neg fun hl => h (.inr ⟨.inl rfl, hl⟩)
  case h_4 => exact if_neg fun hl => h (.inr ⟨.inr (.inl rfl), hl⟩)
  case h_5 => exact if_neg fun hl => h (.inr ⟨.inr (.inr rfl), hl⟩)
  all_goals rfl

/-- Beside NONE only a SETUP takes a length over 8. -/
theorem runEvent_of_len_over_eight {k : BitVec 3} {l : BitVec 4} (hk0 : k ≠ 0) (hk1 : k ≠ 1)
    (hl : 8 < l.toNat) (d : Payload) (s : State) :
    runEvent ⟨k, l, d⟩ s = .refused (.refusedEngineEvent ⟨k, l, d⟩) := by
  refine runEvent_of_not_accepted s hk0 ?_
  rw [← Bool.not_eq_true, acceptedEvent_eq_true_iff, lenInProtocol_iff]
  rintro (h | ⟨-, h⟩)
  · exact hk1 h
  · omega

/-! ## Answers (R143) -/

theorem dataFollows_ne_descriptorCode : dataFollows ≠ descriptorCode := by decide

theorem engineCode_ne_descriptorCode : engineCode ≠ descriptorCode := by decide

/-- The answer to a SETUP is its class's alone: base and length are driven with DESCRIPTOR only. -/
theorem dispatchSetup_answers_alike (sw : Word32) (s s' : State) :
    ∃ t t', dispatchSetup sw s = .next t ∧ dispatchSetup sw s' = .next t'
      ∧ t.respCode = t'.respCode
      ∧ (t.respCode = 0b01 → t.respBase = t'.respBase ∧ t.respLen = t'.respLen) := by
  unfold dispatchSetup
  cases classify sw
  case getDescriptorDevice | getDescriptorConfig =>
    exact ⟨_, _, rfl, rfl, rfl, fun _ => ⟨rfl, rfl⟩⟩
  case stdOther =>
    exact ⟨_, _, rfl, rfl, rfl, fun h => absurd h engineCode_ne_descriptorCode⟩
  all_goals exact ⟨_, _, rfl, rfl, rfl, fun h => absurd h dataFollows_ne_descriptorCode⟩

/-! ## The registers (44_main_loop.md R201) -/

theorem runEvent_regs {e : EngineEvent} {s t : State} (h : runEvent e s = .next t) :
    t.regs = eventRegs s.regs e := by
  obtain ⟨hrep, hcur, hchanged, -, -, -, -, -, -, -, -, -, -, hflag⟩ := runEvent_next h
  rw [State.regs, hrep, hcur, hchanged, hflag, eventRegs]
  split <;> rfl

/-! ## The obligations -/

/-- Settles O2: no class reads its operands. -/
theorem inertRequestsOnlyAnswerDataFollows : Obligations.InertRequestsOnlyAnswerDataFollows :=
  fun _ _ _ _ _ => ⟨rfl, rfl, rfl, rfl, rfl⟩

/-- Settles O3: row 3's mask, with the words of rows 1 and 2 taken out. -/
theorem standardRequestsGoToTheEngine : Obligations.StandardRequestsGoToTheEngine := by
  refine ⟨fun _ _ _ _ _ _ _ => rfl, fun len data s hm hget => ?_⟩
  rw [exec_evtSetup_eq_exec_decodeSetup, decodeSetup_of_matches_stdOther hm hget]
  rfl

/-- Settles O4: row 1's mask. -/
theorem deviceTypeGetsDeviceDescriptor : Obligations.DeviceTypeGetsDeviceDescriptor := by
  refine ⟨exec_getDescriptorDevice, fun len data s hm => ?_⟩
  rw [exec_evtSetup_eq_exec_decodeSetup, decodeSetup_of_matches_device hm]
  exact exec_getDescriptorDevice _ _ s

/-- Settles O7: a SETUP writes the answer ports and the empty-frame flag alone. -/
theorem setupRunsItsRow : Obligations.SetupRunsItsRow := by
  intro len data s
  obtain ⟨code, base, rlen, hnext⟩ := dispatchSetup_next (swOf data) s
  exact ⟨_, hnext, (exec_evtSetup_eq_exec_decodeSetup len data s).symm.trans hnext,
    rfl, rfl, rfl, rfl, rfl, rfl, rfl, rfl, rfl⟩

/-- Settles O9: the buffer's seven bytes are zeroed and then gathered on the port. -/
theorem controlReadAnswersZeros : Obligations.ControlReadAnswersZeros := by
  intro len data s hwf hlen
  have hbyte := rdbufByte_fillRdbuf hwf
  refine ⟨_, exec_evtCtrlRead (lenInProtocol_iff.2 hlen) data s, ?_, fun j hj => ?_, fun j hj => ?_⟩
  · rw [← rdData_answerRead_fillRdbuf hwf len]
    rfl
  · exact (hbyte j).trans (if_pos hj)
  · exact (hbyte j).trans (if_neg (by omega))

/-- Settles O10. -/
theorem hostDataIsDiscarded : Obligations.HostDataIsDiscarded := fun _ data s hlen =>
  ⟨exec_evtCtrlWrite (lenInProtocol_iff.2 hlen) data s,
    exec_evtIntOut (lenInProtocol_iff.2 hlen) data s⟩

/-- Settles O11: kinds over 4 and lengths over 8 are not accepted, and POLL's run of an event is the
event's row. -/
theorem eventsOutsideTheProtocolAreRefused : Obligations.EventsOutsideTheProtocolAreRefused :=
  fun _ data s => ⟨rfl, rfl, rfl, fun hlen =>
    ⟨runEvent_of_len_over_eight (k := 2) (by decide) (by decide) hlen data s,
      runEvent_of_len_over_eight (k := 3) (by decide) (by decide) hlen data s,
      runEvent_of_len_over_eight (k := 4) (by decide) (by decide) hlen data s⟩⟩

/-- Settles O12, kind by kind: a SETUP's answer is its class's, a control read's the zeros, a control
write's the constant, and an interrupt-OUT packet has none. -/
theorem answersDoNotDependOnTheState : Obligations.AnswersDoNotDependOnTheState := by
  rintro ⟨k, l, d⟩ s s' hacc hwf hwf'
  obtain rfl | ⟨rfl | rfl | rfl, hlen⟩ := acceptedEvent_eq_true_iff.1 hacc
  · obtain ⟨t, t', ht, ht', halike⟩ := dispatchSetup_answers_alike (swOf d) s s'
    exact ⟨t, t', ht, ht', fun _ => halike, by simp, by simp⟩
  · have hdata : (s.fillRdbuf.answerRead l).rdData = (s'.fillRdbuf.answerRead l).rdData := by
      rw [rdData_answerRead_fillRdbuf hwf, rdData_answerRead_fillRdbuf hwf']
    exact ⟨_, _, exec_evtCtrlRead hlen d s, exec_evtCtrlRead hlen d s', by simp,
      fun _ => ⟨rfl, hdata⟩, by simp⟩
  · exact ⟨_, _, exec_evtCtrlWrite hlen d s, exec_evtCtrlWrite hlen d s', by simp, by simp,
      fun _ => rfl⟩
  · exact ⟨_, _, exec_evtIntOut hlen d s, exec_evtIntOut hlen d s', by simp, by simp, by simp⟩

/-- Settles O14: what an event inside the protocol leaves, read at the event ports. -/
theorem pollRunsThePresentedEvent : Obligations.PollRunsThePresentedEvent := by
  refine ⟨fun _ => rfl, fun s => runEvent_eq_exec _ s, fun s hevent => ?_⟩
  obtain ⟨t, ht⟩ := runEvent_accepted (e := eventOf s.pins) s hevent
  obtain ⟨-, -, -, hrom, hinbuf, -, -, -, -, hsubmit, hkick, hphase, -⟩ := runEvent_next ht
  exact ⟨t, ht, hphase, runEvent_regs ht, hrom, hinbuf, hsubmit, hkick⟩

end Sys2Proof.Machine
end

section
/-!
The framer and EMIT (43_packet_builder.md R181 to R187, 44_main_loop.md R203, R204), the key rows
and repeated samples (42_key_tracker.md R161, R166), and the obligations of this family.
-/

namespace Sys2Proof.Machine

/-! ## A packet in the staging buffer (20_memory.md R55) -/

theorem packetOffset_eq (p : Nat) : packetOffset p = 4 * p := rfl

/-- Byte `j` of a staged packet. -/
theorem inbufByte_stagePacket_inside {s : State} (hs : s.inbuf.wf bufferFill inbufSize = true)
    {p j : Nat} (hp : p < 2) (pkt : Packet) (hj : j < 4) :
    (s.stagePacket p pkt).inbufByte (packetOffset p + j) = (packetBytes pkt).getD j 0 := by
  rw [inbufByte_stagePacket hs hp, packetOffset_eq, if_pos (by omega), Nat.add_sub_cancel_left]

theorem inbufByte_stagePacket_outside {s : State} (hs : s.inbuf.wf bufferFill inbufSize = true)
    {p c : Nat} (hp : p < 2) (pkt : Packet) (hc : c < packetOffset p ∨ packetOffset p + 4 ≤ c) :
    (s.stagePacket p pkt).inbufByte c = s.inbufByte c := by
  rw [packetOffset_eq] at hc
  rw [inbufByte_stagePacket hs hp, if_neg (by omega)]

theorem noteOnPosition_of_noKey {s : State} (h : s.lastReportedKey = noKey) :
    noteOnPosition s = 0 :=
  if_pos h

theorem noteOnPosition_of_note {s : State} (h : s.lastReportedKey ≠ noKey) :
    noteOnPosition s = 1 :=
  if_neg h

theorem noteOnPosition_lt (s : State) : noteOnPosition s < 2 := by
  unfold noteOnPosition
  split <;> decide

@[simp] theorem exec_noteOff (k : Byte) (s : State) :
    exec (.noteOff k) s = .next (s.stagePacket 0 (noteOffPacket k)) := rfl

@[simp] theorem exec_noteOn (k : Byte) (s : State) :
    exec (.noteOn k) s = .next (s.stagePacket (noteOnPosition s) (noteOnPacket k)) := rfl

/-! ## The framing of a state (R185, R186) -/

/-- Staging packets writes the buffer alone. -/
theorem stagePackets_eq (s : State) (p : Nat) (seq : List Packet) :
    s.stagePackets p seq = { s with inbuf := (s.stagePackets p seq).inbuf } := by
  induction seq generalizing s p with
  | nil => rfl
  | cons pkt rest ih =>
    rw [State.stagePackets, ih]
    rfl

/-- The buffer with the packets of a state's transition staged. -/
def State.stagedInbuf (s : State) : Memory :=
  (s.stagePackets 0 (build s.lastReportedKey s.currentKey)).inbuf

/-- The state after FRAME has staged and submitted the packets of a transition. -/
def State.framed (s : State) : State :=
  { s with
    inbuf := s.stagedInbuf
    pendingEmptyFrameRequired := emptyFrameAfterSubmit (frameLen s.lastReportedKey s.currentKey)
    inSubmit := true
    inLen := BitVec.ofNat 4 (frameLen s.lastReportedKey s.currentKey)
    inData := gather
      (s.stagedInbuf.readBytes bufferFill 0 (frameLen s.lastReportedKey s.currentKey)) }

@[simp] theorem State.framed_inSubmit (s : State) : s.framed.inSubmit = true := rfl
@[simp] theorem State.framed_inLen (s : State) :
    s.framed.inLen = BitVec.ofNat 4 (frameLen s.lastReportedKey s.currentKey) := rfl

/-- FRAME with a non-empty build and a ready endpoint. -/
theorem frame_eq_framed {s : State} (hready : s.pins.inReady = true)
    (hn : frameLen s.lastReportedKey s.currentKey ≠ 0) : frame s = .next s.framed := by
  rw [frame_ready hready, if_neg hn, stagePackets_eq]
  rfl

theorem frame_of_empty {s : State} (hready : s.pins.inReady = true)
    (hn : frameLen s.lastReportedKey s.currentKey = 0) : frame s = .next s := by
  rw [frame_ready hready, if_pos hn]

/-- With nothing pending or the endpoint busy EMIT only ends the tick (R203). -/
theorem exec_phaseEmit_of_idle {s : State} (h : ¬ (s.pins.inReady = true ∧ s.changed = true)) :
    exec .phaseEmit s = .next (s.setPhase .kick) :=
  if_neg (by rwa [State.inReadySample, Bool.and_eq_true])

/-- An EMIT that goes on is FRAME and then COMPLETE (R204). -/
theorem exec_phaseEmit_of_frame {s t : State} (hready : s.pins.inReady = true)
    (hchanged : s.changed = true) (hframe : frame s = .next t) :
    exec .phaseEmit s = .next (t.completeFrame.setPhase .kick) := by
  change execPhaseEmit s = _
  rw [execPhaseEmit, State.inReadySample, hready, hchanged, Bool.and_self, if_pos rfl, hframe,
    andThen_next]

/-- EMIT: nothing pending or the endpoint busy, an empty build completed without a submission
(decision D22), or one submission. -/
theorem exec_phaseEmit_cases (s : State) :
    (¬ (s.pins.inReady = true ∧ s.changed = true)
        ∧ exec .phaseEmit s = .next (s.setPhase .kick))
      ∨ (s.pins.inReady = true ∧ s.changed = true
        ∧ frameLen s.lastReportedKey s.currentKey = 0
        ∧ exec .phaseEmit s = .next (s.completeFrame.setPhase .kick))
      ∨ (s.pins.inReady = true ∧ s.changed = true
        ∧ frameLen s.lastReportedKey s.currentKey ≠ 0
        ∧ exec .phaseEmit s = .next (s.framed.completeFrame.setPhase .kick)) := by
  by_cases hgo : s.pins.inReady = true ∧ s.changed = true
  · obtain ⟨hready, hchanged⟩ := hgo
    by_cases hn : frameLen s.lastReportedKey s.currentKey = 0
    · exact .inr (.inl ⟨hready, hchanged, hn,
        exec_phaseEmit_of_frame hready hchanged (frame_of_empty hready hn)⟩)
    · exact .inr (.inr ⟨hready, hchanged, hn,
        exec_phaseEmit_of_frame hready hchanged (frame_eq_framed hready hn)⟩)
  · exact .inl ⟨hgo, exec_phaseEmit_of_idle hgo⟩

/-- EMIT answers a next state whatever the buffer holds. -/
theorem exec_phaseEmit_next (s : State) : ∃ t, exec .phaseEmit s = .next t :=
  ⟨_, execPhaseEmit_eq s⟩

/-! ## What a framing submits -/

theorem frameLen_eq (prev cur : Byte) : frameLen prev cur = 4 * (build prev cur).length := rfl

theorem frameLen_ne_zero {prev cur : Byte} :
    frameLen prev cur ≠ 0 ↔ ¬ (prev = noKey ∧ cur = noKey) :=
  frameLen_eq_zero.not

theorem build_eq_nil_of_frameLen {prev cur : Byte} (h : frameLen prev cur = 0) :
    build prev cur = [] :=
  build_eq_nil_iff.2 (frameLen_eq_zero.1 h)

theorem toNat_framed_inLen (s : State) :
    s.framed.inLen.toNat = frameLen s.lastReportedKey s.currentKey := by
  have hle := frameLen_le s.lastReportedKey s.currentKey
  rw [State.framed_inLen, BitVec.toNat_ofNat, Nat.mod_eq_of_lt (by omega)]

theorem framed_inData {s : State} (hs : s.inbuf.wf bufferFill inbufSize = true) :
    s.framed.inData = gather ((build s.lastReportedKey s.currentKey).flatMap packetBytes) :=
  congrArg gather (readBytes_stagePackets_build hs _ _)

theorem payloadByte_framed_inData {s : State} (hs : s.inbuf.wf bufferFill inbufSize = true)
    {j : Nat} (hj : j < 8) : payloadByte s.framed.inData j
      = ((build s.lastReportedKey s.currentKey).flatMap packetBytes).getD j 0 := by
  rw [framed_inData hs, payloadByte_gather _ j hj]

theorem framed_submittedBytes {s : State} (hs : s.inbuf.wf bufferFill inbufSize = true) :
    s.framed.submittedBytes = (build s.lastReportedKey s.currentKey).flatMap packetBytes := by
  have hlen := length_flatMap_build s.lastReportedKey s.currentKey
  have hle := frameLen_le s.lastReportedKey s.currentKey
  rw [State.submittedBytes, if_pos s.framed_inSubmit, toNat_framed_inLen]
  apply List.ext_getElem
  · simp [hlen]
  · intro j h1 h2
    rw [List.getElem_map, List.getElem_range, payloadByte_framed_inData hs (by omega),
      List.getD_eq_getElem _ _ h2]

theorem framed_inbufByte {s : State} (hs : s.inbuf.wf bufferFill inbufSize = true) (c : Nat) :
    s.framed.inbufByte c = if c < frameLen s.lastReportedKey s.currentKey
      then ((build s.lastReportedKey s.currentKey).flatMap packetBytes).getD c 0
      else s.inbufByte c :=
  inbufByte_stagePackets_build hs _ _ c

theorem wf_stagedInbuf {s : State} (hs : s.inbuf.wf bufferFill inbufSize = true) :
    s.stagedInbuf.wf bufferFill inbufSize = true :=
  wf_stagePackets_build hs _ _

/-- EMIT with a change to frame leaves the staged buffer; an empty build stages nothing. -/
theorem exec_phaseEmit_inbuf {s : State} (hready : s.pins.inReady = true)
    (hchanged : s.changed = true) :
    ∃ t, exec .phaseEmit s = .next t ∧ t.inbuf = s.stagedInbuf := by
  obtain ⟨hidle, -⟩ | ⟨-, -, hn, hexec⟩ | ⟨-, -, -, hexec⟩ := exec_phaseEmit_cases s
  · exact absurd ⟨hready, hchanged⟩ hidle
  · exact ⟨_, hexec, by rw [State.stagedInbuf, build_eq_nil_of_frameLen hn]; rfl⟩
  · exact ⟨_, hexec, rfl⟩

theorem submittedBytes_of_no_submit {s : State} (h : s.inSubmit = false) :
    s.submittedBytes = [] := by
  rw [State.submittedBytes, h, if_neg Bool.false_ne_true]

@[simp] theorem submittedBytes_setPhase (s : State) (p : Phase) :
    (s.setPhase p).submittedBytes = s.submittedBytes := rfl

@[simp] theorem submittedBytes_completeFrame (s : State) :
    s.completeFrame.submittedBytes = s.submittedBytes := rfl

@[simp] theorem submittedBytes_drivePins (s : State) :
    s.drivePins.submittedBytes = s.submittedBytes := by
  simp [State.submittedBytes]

/-! ## Repeated samples (R166) -/

/-- One SAMPLE phase more. -/
theorem samplePhases_succ {s t : State} {n : Nat} (h : samplePhases s n = .next t) :
    samplePhases s (n + 1)
      = .next ((t.setCurrentKey (sample (~~~t.pins.keyN))).detectEdge.setPhase .emit) := by
  rw [samplePhases, h, andThen_next, exec_phaseSample]

/-- While the key lines sample to the reported key, SAMPLE phases find no change. -/
theorem samplePhases_quiet {s : State} (hchanged : s.changed = false)
    (hkeys : sample (~~~s.pins.keyN) = s.lastReportedKey) (n : Nat) :
    ∃ t, samplePhases s n = .next t ∧ t.changed = false
      ∧ t.lastReportedKey = s.lastReportedKey ∧ t.pins = s.pins := by
  induction n with
  | zero => exact ⟨s, rfl, hchanged, rfl, rfl⟩
  | succ n ih =>
    obtain ⟨t, hrun, ht, hrep, hpins⟩ := ih
    exact ⟨_, samplePhases_succ hrun, by simp [ht, hrep, hpins, hkeys], hrep, hpins⟩

/-! ## The key rows (R161) -/

theorem sample_eq_ite (p : BitVec 6) :
    sample p = if p.getLsbD 0 then noteOfKey 0
      else if p.getLsbD 1 then noteOfKey 1
      else if p.getLsbD 2 then noteOfKey 2
      else if p.getLsbD 3 then noteOfKey 3
      else if p.getLsbD 4 then noteOfKey 4
      else if p.getLsbD 5 then noteOfKey 5
      else noKey := rfl

/-- The row of a key word writes the sample of the word: both look for the lowest set bit. -/
theorem exec_decodeKeys (p : BitVec 6) (s : State) :
    exec (decodeKeys p) s = .next (s.setCurrentKey (sample p)) := by
  rw [sample_eq_ite, decodeKeys]
  split_ifs <;> rfl

/-! ## The obligations -/

/-- Settles O16, by the three cases of EMIT; an empty build is the framing of no bytes. -/
theorem emitFramesAPendingChange : Obligations.EmitFramesAPendingChange := by
  intro s hs
  obtain ⟨hidle, hexec⟩ | ⟨hready, hchanged, hn, hexec⟩ | ⟨hready, hchanged, hn, hexec⟩ :=
    exec_phaseEmit_cases s
  · exact ⟨_, hexec, by rw [if_neg hidle]; rfl⟩
  · refine ⟨_, hexec, ?_⟩
    rw [if_pos ⟨hready, hchanged⟩, build_eq_nil_of_frameLen hn]
    exact ⟨rfl, fun h => absurd h (lt_irrefl 0), fun _ => rfl⟩
  · refine ⟨_, hexec, ?_⟩
    have hpos : 4 * (build s.lastReportedKey s.currentKey).length > 0 := Nat.pos_of_ne_zero hn
    rw [if_pos ⟨hready, hchanged⟩]
    refine ⟨?_, fun _ => framed_submittedBytes hs, framed_inbufByte hs⟩
    simp only [if_pos hpos]
    rfl

/-- Settles O22. -/
theorem frameLengthIsZeroFourOrEight : Obligations.FrameLengthIsZeroFourOrEight := by
  intro prev cur
  change _ = if prev = noKey ∧ cur = noKey then 0 else if prev = noKey ∨ cur = noKey then 4 else 8
  rw [frameLen_eq, length_build]
  by_cases hp : prev = noKey <;> by_cases hc : cur = noKey <;> simp [hp, hc]

/-- Settles O23: a Note-Off is packet 1. -/
theorem noteOffIsStagedFirst : Obligations.NoteOffIsStagedFirst := by
  intro k s hs
  have hin (j : Nat) (hj : j < 4) := inbufByte_stagePacket_inside hs (p := 0) two_pos
    (noteOffPacket k) hj
  exact ⟨_, exec_noteOff k s, rfl, hin 0 (by decide), hin 1 (by decide), hin 2 (by decide),
    hin 3 (by decide), fun c hc => inbufByte_stagePacket_outside hs two_pos _ (.inr hc)⟩

/-- Settles O24: a Note-On's place is the model's `noteOnPosition`. -/
theorem noteOnIsStagedAfterNoteOff : Obligations.NoteOnIsStagedAfterNoteOff := by
  intro k s hs
  have hin (j : Nat) (hj : j < 4) := inbufByte_stagePacket_inside hs (noteOnPosition_lt s)
    (noteOnPacket k) hj
  have hoffset : packetOffset (noteOnPosition s) = if s.lastReportedKey = 0 then 0 else 4 := by
    rw [packetOffset_eq, noteOnPosition, mul_ite]
    rfl
  exact ⟨hoffset, _, exec_noteOn k s, rfl, hin 0 (by decide), hin 1 (by decide), hin 2 (by decide),
    hin 3 (by decide), fun c hc => inbufByte_stagePacket_outside hs (noteOnPosition_lt s) _ hc⟩

/-- Settles O26: a non-empty build is framed. -/
theorem submissionPortsCarryThePackets : Obligations.SubmissionPortsCarryThePackets := by
  intro s hs hready hchanged hbuild
  obtain ⟨hidle, -⟩ | ⟨-, -, hn, -⟩ | ⟨-, -, -, hexec⟩ := exec_phaseEmit_cases s
  · exact absurd ⟨hready, hchanged⟩ hidle
  · exact absurd (build_eq_nil_of_frameLen hn) hbuild
  · exact ⟨_, hexec, rfl, toNat_framed_inLen s, fun j hj => payloadByte_framed_inData hs hj⟩

/-- Settles O28, by the four cases of a build: a Note-On is packet 2 exactly after a Note-Off. -/
theorem emitStagesThroughThePacketRows : Obligations.EmitStagesThroughThePacketRows := by
  intro s hready hchanged
  obtain ⟨t, hexec, hinbuf⟩ := exec_phaseEmit_inbuf hready hchanged
  rw [State.stagedInbuf] at hinbuf
  refine ⟨t, hexec, fun (hp : _ ≠ noKey) (hc : _ ≠ noKey) => ?_,
    fun (hp : _ ≠ noKey) (hc : _ = noKey) => ?_, fun (hp : _ = noKey) (hc : _ ≠ noKey) => ?_,
    fun (hp : _ = noKey) (hc : _ = noKey) => ?_⟩
  · refine ⟨_, _, exec_noteOff _ _, exec_noteOn _ _, ?_⟩
    rw [hinbuf, build_note_note hp hc, noteOnPosition_of_note (by simpa using hp)]
    rfl
  · refine ⟨_, exec_noteOff _ _, ?_⟩
    rw [hinbuf, hc, build_note_noKey hp]
    rfl
  · refine ⟨_, exec_noteOn _ _, ?_⟩
    rw [hinbuf, hp, build_noKey_note hc, noteOnPosition_of_noKey hp]
    rfl
  · rw [hinbuf, hp, hc, build_noKey_noKey]
    rfl

/-- Settles O18: the rows are written out, and the row of a key word is the scan's. -/
theorem keyRowsWriteTheirNote : Obligations.KeyRowsWriteTheirNote :=
  ⟨fun _ => ⟨fun _ => rfl, fun _ => rfl, fun _ => rfl, fun _ => rfl, fun _ => rfl, rfl, rfl⟩,
    exec_decodeKeys⟩

/-- Settles O20: the last of the samples writes the reported key to `currentKey`. -/
theorem samplingIsIdempotent : Obligations.SamplingIsIdempotent := by
  intro s n hchanged hkeys
  obtain ⟨t, hrun, ht, hrep, hpins⟩ := samplePhases_quiet hchanged hkeys n
  exact ⟨_, samplePhases_succ hrun, by simp [ht, hrep, hpins, hkeys], by simp [hrep, hpins, hkeys],
    hrep⟩

end Sys2Proof.Machine
end

section
/-!
The step (44_main_loop.md section 1, 10_state.md section 2, 60_exceptions.md section 1): what a row
can do and how it can stop, each said once, and from that the invariants and the obligations of this
family.
-/

namespace Sys2Proof.Machine

/-! ## The rows that run an engine event -/

/-- A row runs an engine event: it is the event's own row, or POLL, which takes the event from the
ports (44_main_loop.md R201). -/
def RunsEvent (i : Instr) (s : State) (e : EngineEvent) : Prop :=
  decodeEvent e = i ∨ i = .phasePoll ∧ e = eventOf s.pins

theorem RunsEvent.exec_eq {i : Instr} {s : State} {e : EngineEvent} (h : RunsEvent i s e) :
    exec i s = runEvent e s := by
  obtain rfl | ⟨rfl, rfl⟩ := h
  · exact (runEvent_eq_exec e s).symm
  · rfl

/-- Every event row is some event's. -/
theorem exists_decodeEvent_eq {i : Instr} (hformat : i.format = .evt) :
    ∃ e, decodeEvent e = i := by
  cases i
  case evtNone => exact ⟨⟨0, 0, 0⟩, rfl⟩
  case evtSetup l d => exact ⟨⟨1, l, d⟩, rfl⟩
  case evtCtrlRead l d => exact ⟨⟨2, l, d⟩, rfl⟩
  case evtCtrlWrite l d => exact ⟨⟨3, l, d⟩, rfl⟩
  case evtIntOut l d => exact ⟨⟨4, l, d⟩, rfl⟩
  case evtReserved5 l d => exact ⟨⟨5, l, d⟩, rfl⟩
  case evtReserved67 low l d =>
    obtain rfl | rfl := BitVec.eq_zero_or_eq_one low
    · exact ⟨⟨6, l, d⟩, rfl⟩
    · exact ⟨⟨7, l, d⟩, rfl⟩
  all_goals cases hformat

theorem format_decodeEvent (e : EngineEvent) : (decodeEvent e).format = .evt := by
  unfold decodeEvent
  split <;> rfl

theorem decodeEvent_of_kind_one {e : EngineEvent} (h : e.kind = 1) :
    decodeEvent e = .evtSetup e.len e.data := by
  obtain ⟨k, l, d⟩ := e
  obtain rfl : k = 1 := h
  rfl

/-! ## What a row can do -/

/-- What a row can do to the state, one constructor for each kind of row and each case of EMIT. -/
inductive RowEffect : Instr → State → State → Prop where
  /-- A SETUP row drives the answer ports, and CLASS_H2D sets the empty-frame flag. -/
  | answer {i : Instr} {s : State} (code : BitVec 2) (base len : BitVec 7) (flag : Bool)
      (hflag : flag = s.pendingEmptyFrameRequired
        ∨ flag = true ∧ ∃ r b v d, i = .classH2d r b v d) :
      RowEffect i s
        { s with
          respCode := code, respBase := base, respLen := len, pendingEmptyFrameRequired := flag }
  /-- An event row, or POLL. -/
  | event {i : Instr} {s t : State} (e : EngineEvent) (hi : RunsEvent i s e)
      (hrun : runEvent e s = .next t) : RowEffect i s t
  /-- A packet row. -/
  | packet {i : Instr} {s : State} {p : Nat} (hp : p < 2) (pkt : Packet) :
      RowEffect i s (s.stagePacket p pkt)
  /-- A key row. -/
  | key {i : Instr} {s : State} {k : Byte} (hk : isNoteOrNone k = true) :
      RowEffect i s (s.setCurrentKey k)
  /-- PHASE_KICK. -/
  | kick {s : State} : RowEffect .phaseKick s (s.kickWatchdog.setPhase .poll)
  /-- PHASE_SAMPLE. -/
  | sample {s : State} : RowEffect .phaseSample s
      ((s.setCurrentKey (sample (~~~s.pins.keyN))).detectEdge.setPhase .emit)
  /-- PHASE_EMIT with nothing to do. -/
  | emitIdle {s : State} : RowEffect .phaseEmit s (s.setPhase .kick)
  /-- PHASE_EMIT with an empty build. -/
  | emitEmpty {s : State} (hn : frameLen s.lastReportedKey s.currentKey = 0) :
      RowEffect .phaseEmit s (s.completeFrame.setPhase .kick)
  /-- PHASE_EMIT with a submission. -/
  | emitFrame {s : State} (hready : s.pins.inReady = true) (hchanged : s.changed = true)
      (hn : frameLen s.lastReportedKey s.currentKey ≠ 0) :
      RowEffect .phaseEmit s (s.framed.completeFrame.setPhase .kick)

/-- A row that goes on has one of these effects. -/
theorem exec_effect {i : Instr} {s t : State} (h : exec i s = .next t) : RowEffect i s t := by
  cases hformat : i.format
  case setupSw =>
    cases i
    case classH2d r b v d => cases h; exact .answer _ _ _ _ (.inr ⟨rfl, r, b, v, d, rfl⟩)
    case getDescriptorDevice | getDescriptorConfig | stdOther | classD2h | vendorH2d | vendorD2h
        | reservedH2d | reservedD2h =>
      cases h; exact .answer _ _ _ _ (.inl rfl)
    all_goals cases hformat
  case evt =>
    obtain ⟨e, he⟩ := exists_decodeEvent_eq hformat
    have hi : RunsEvent i s e := .inl he
    exact .event e hi (hi.exec_eq.symm.trans h)
  case pkt32 =>
    cases i
    case noteOff => cases h; exact .packet two_pos _
    case noteOn => cases h; exact .packet (noteOnPosition_lt s) _
    all_goals cases hformat
  case keyword =>
    cases i
    case keySample60 | keySample62 | keySample64 | keySample65 | keySample67 | keySample69
        | keySampleNone =>
      cases h; exact .key (by decide)
    all_goals cases hformat
  case phase =>
    cases i
    case phaseKick => cases h; exact .kick
    case phasePoll => exact .event _ (.inr ⟨rfl, rfl⟩) h
    case phaseSample => cases h; exact .sample
    case phaseEmit =>
      obtain ⟨-, hexec⟩ | ⟨-, -, hn, hexec⟩ | ⟨hready, hchanged, hn, hexec⟩ :=
        exec_phaseEmit_cases s
      all_goals
        rw [hexec] at h
        cases h
      · exact .emitIdle
      · exact .emitEmpty hn
      · exact .emitFrame hready hchanged hn
    all_goals cases hformat

/-! ## How a row can stop -/

/-- A row goes on, or it runs an event. -/
theorem exec_next_or_runsEvent (i : Instr) (s : State) :
    (∃ t, exec i s = .next t) ∨ ∃ e, RunsEvent i s e := by
  by_cases hevt : i.format = .evt
  · exact .inr ((exists_decodeEvent_eq hevt).imp fun _ => .inl)
  · cases i
    case evtNone | evtSetup | evtCtrlRead | evtCtrlWrite | evtIntOut | evtReserved5
        | evtReserved67 =>
      exact absurd rfl hevt
    case phasePoll => exact .inr ⟨_, .inr ⟨rfl, rfl⟩⟩
    case phaseEmit => exact .inl (exec_phaseEmit_next s)
    all_goals exact .inl ⟨_, rfl⟩

/-- A row that does not go on refuses an event that is not NONE and not accepted; no row faults. -/
theorem exec_next_or_refuses (i : Instr) (s : State) :
    (∃ t, exec i s = .next t)
      ∨ ∃ e, RunsEvent i s e ∧ e.kind ≠ 0 ∧ acceptedEvent e = false
        ∧ exec i s = .refused (.refusedEngineEvent e) := by
  obtain hnext | ⟨e, he⟩ := exec_next_or_runsEvent i s
  · exact .inl hnext
  · rw [he.exec_eq]
    by_cases hok : e.kind = 0 ∨ acceptedEvent e = true
    · exact .inl (runEvent_accepted s hok)
    · rw [not_or, Bool.not_eq_true] at hok
      obtain ⟨hkind, hacc⟩ := hok
      exact .inr ⟨e, he, hkind, hacc, runEvent_of_not_accepted s hkind hacc⟩

/-! ## The step -/

theorem step_of_rst {s : State} (h : s.pins.rst = true) :
    step s = .next s.takeReset.drivePins :=
  if_pos h

@[simp] theorem thenDrivePins_next (s : State) : thenDrivePins (.next s) = .next s.drivePins := rfl

@[simp] theorem thenDrivePins_refused (e : Refusal) : thenDrivePins (.refused e) = .refused e := rfl

theorem fetch_of_slot {s : State} {sl : Slot} (h : s.slot = some sl) :
    fetch s = decodeBytes sl.format sl.bytes := by
  rw [fetch, fetchSlot, h, Option.getD_some]

/-- With nothing offered and `rst` released a step is the phase of the tick. -/
theorem step_of_phase {s : State} {p : Phase} (hrst : s.pins.rst = false) (hslot : s.slot = none)
    (hp : s.phase = p) : step s = thenDrivePins (exec (decodePhase (phaseCode p)) s.beginStep) :=
  step_of_fetch hrst (hp ▸ fetch_phase hslot)

/-- A step resets, runs the row it decodes, or finds no row. -/
theorem step_cases (s : State) :
    (s.pins.rst = true ∧ step s = .next s.takeReset.drivePins)
      ∨ (∃ i, s.pins.rst = false ∧ fetch s = .ok i ∧ step s = thenDrivePins (exec i s.beginStep))
      ∨ ∃ e, s.pins.rst = false ∧ fetch s = .error e
        ∧ step s = .refused (.undecodable (fetchSlot s)) := by
  cases hrst : s.pins.rst
  case true => exact .inl ⟨rfl, step_of_rst hrst⟩
  case false =>
    cases hfetch : fetch s
    case ok i => exact .inr (.inl ⟨i, rfl, rfl, step_of_fetch hrst hfetch⟩)
    case error e => exact .inr (.inr ⟨e, rfl, rfl, by rw [step, hrst, hfetch]; rfl⟩)

theorem drivePins_eq (s : State) :
    s.drivePins = { s with
      pins := s.script.headD (freePins s.clock)
      script := s.script.tail
      clock := s.clock + 1 } := by
  unfold State.drivePins
  split <;> simp_all

/-- The step's row is the phase's own, so it is an event's only in POLL. -/
theorem runsEvent_decodePhase {p : Phase} {s : State} {e : EngineEvent}
    (h : RunsEvent (decodePhase (phaseCode p)) s e) : p = .poll ∧ e = eventOf s.pins := by
  obtain he | ⟨hpoll, he⟩ := h
  · have hformat := format_decodeEvent e
    rw [he] at hformat
    cases p <;> cases hformat
  · refine ⟨?_, he⟩
    cases p
    case poll => rfl
    all_goals cases hpoll

/-! ## The phases of a tick (10_state.md R27) -/

theorem exec_phaseEmit_next_phase {s t : State} (h : exec .phaseEmit s = .next t) :
    t.phase = .kick := by
  obtain ⟨-, hexec⟩ | ⟨-, -, -, hexec⟩ | ⟨-, -, -, hexec⟩ := exec_phaseEmit_cases s
  all_goals
    rw [hexec] at h
    cases h
    rfl

/-- A phase is followed by the next, but POLL by itself while an event is presented (log 1). -/
theorem exec_phase_next_phase {s t : State}
    (h : exec (decodePhase (phaseCode s.phase)) s = .next t) :
    t.phase = if s.phase = .poll ∧ s.pins.evtKind ≠ 0 then .poll else nextPhase s.phase := by
  cases hphase : s.phase
  all_goals rw [hphase] at h
  case kick | sample =>
    cases h
    rfl
  case poll =>
    obtain ⟨-, -, -, -, -, -, -, -, -, -, -, hnext, -⟩ := runEvent_next h
    rw [hnext, hphase]
    by_cases hkind : (eventOf s.pins).kind = 0
    · rw [if_pos hkind, if_neg fun hp => hp.2 hkind]
      rfl
    · rw [if_neg hkind, if_pos ⟨rfl, hkind⟩]
  case emit => exact exec_phaseEmit_next_phase h

/-- A phase goes on, POLL when no event or an accepted one is presented. -/
theorem exec_phase_goes_on {s : State}
    (h : s.phase = .poll → s.pins.evtKind = 0 ∨ acceptedEvent (eventOf s.pins) = true) :
    ∃ t, exec (decodePhase (phaseCode s.phase)) s = .next t := by
  cases hphase : s.phase
  case kick | sample => exact ⟨_, rfl⟩
  case poll => exact runEvent_accepted (e := eventOf s.pins) s (h hphase)
  case emit => exact exec_phaseEmit_next s

/-- A submission reached with the endpoint busy is the model fault (60_exceptions.md R221). -/
theorem submit_busy (n : Nat) {s : State} (h : s.pins.inReady = false) :
    submit n s = .fault (.submitWhileBusy (BitVec.ofNat 4 n)
      (gather (s.inbuf.readBytes bufferFill 0 n))) :=
  if_neg (by rw [State.inReadySample, h]; exact Bool.false_ne_true)

/-! ## The invariant (10_state.md R29) -/

theorem inv_iff {s : State} :
    s.inv ↔ (isNoteOrNone s.lastReportedKey = true ∧ isNoteOrNone s.currentKey = true)
      ∧ s.rom.wf romImage romSize = true ∧ s.inbuf.wf bufferFill inbufSize = true
      ∧ s.rdbuf.wf bufferFill rdbufSize = true := by
  simp [State.inv, State.legalKeys, State.memoriesWf, and_assoc]

theorem wf_ite_fillRdbuf {s : State} (h : s.rdbuf.wf bufferFill rdbufSize = true) (p : Prop)
    [Decidable p] :
    (if p then s.fillRdbuf.rdbuf else s.rdbuf).wf bufferFill rdbufSize = true := by
  split
  · exact wf_fillRdbuf h
  · exact h

/-- Every row keeps the invariant: a key is written from the table, the scan or the other key
register, and a buffer by writes inside it. -/
theorem RowEffect.keeps_inv {i : Instr} {s t : State} (h : RowEffect i s t) (hinv : s.inv) :
    t.inv := by
  obtain ⟨⟨hrep, hcur⟩, hrom, hin, hrd⟩ := inv_iff.1 hinv
  refine inv_iff.2 ?_
  cases h
  case answer | kick | emitIdle => exact ⟨⟨hrep, hcur⟩, hrom, hin, hrd⟩
  case event e hi hrun =>
    obtain ⟨hrep', hcur', -, hrom', hin', -, -, -, -, -, -, -, hrd', -⟩ := runEvent_next hrun
    rw [hrep', hcur', hrom', hin', hrd']
    exact ⟨⟨hrep, hcur⟩, hrom, hin, wf_ite_fillRdbuf hrd _⟩
  case packet p hp pkt => exact ⟨⟨hrep, hcur⟩, hrom, wf_stagePacket hin hp pkt, hrd⟩
  case key k hk => exact ⟨⟨hrep, hk⟩, hrom, hin, hrd⟩
  case sample => exact ⟨⟨hrep, isNoteOrNone_sample _⟩, hrom, hin, hrd⟩
  case emitEmpty => exact ⟨⟨hcur, hcur⟩, hrom, hin, hrd⟩
  case emitFrame => exact ⟨⟨hcur, hcur⟩, hrom, wf_stagedInbuf hin, hrd⟩

theorem beginStep_inv {s : State} : s.beginStep.inv ↔ s.inv := Iff.rfl

theorem drivePins_inv {s : State} : s.drivePins.inv ↔ s.inv := by
  simp [inv_iff]

theorem takeReset_inv {s : State} (h : s.inv) : s.takeReset.inv := by
  obtain ⟨-, hrom, -, -⟩ := inv_iff.1 h
  exact inv_iff.2 ⟨⟨rfl, rfl⟩, hrom, rfl, rfl⟩

/-! ## The ROM (20_memory.md R50) -/

theorem memRead_eq_of_rom_eq {s t : State} (h : t.rom = s.rom) (a n : Nat) :
    t.memRead a n = s.memRead a n := by
  simp [State.memRead, State.romByte, h]

theorem step_keeps_rom {s t : State} (h : step s = .next t) : t.rom = s.rom := by
  obtain ⟨-, rfl⟩ | ⟨i, u, -, -, hexec, rfl⟩ := step_eq_next h
  · simp
  · obtain ⟨hrom, -⟩ := exec_next_frame hexec
    simp [hrom]

/-! ## The submission strobe (10_state.md R34) -/

/-- Only EMIT with a non-empty build strobes a submission. -/
theorem RowEffect.inSubmit {i : Instr} {s t : State} (h : RowEffect i s t) :
    t.inSubmit = s.inSubmit
      ∨ i = .phaseEmit ∧ s.pins.inReady = true ∧ s.changed = true
        ∧ frameLen s.lastReportedKey s.currentKey ≠ 0 := by
  cases h
  case event e hi hrun =>
    obtain ⟨-, -, -, -, -, -, -, -, -, hsubmit, -⟩ := runEvent_next hrun
    exact .inl hsubmit
  case emitFrame hready hchanged hn => exact .inr ⟨rfl, hready, hchanged, hn⟩
  all_goals exact .inl rfl

theorem exec_raises_inSubmit_iff {i : Instr} {s t : State} (h : exec i s = .next t)
    (hlow : s.inSubmit = false) :
    t.inSubmit = true ↔ i = .phaseEmit ∧ s.pins.inReady = true ∧ s.changed = true
      ∧ frameLen s.lastReportedKey s.currentKey ≠ 0 := by
  constructor
  · intro hsubmit
    refine (exec_effect h).inSubmit.resolve_left fun hkeep => ?_
    rw [hsubmit, hlow] at hkeep
    exact Bool.false_ne_true hkeep.symm
  · rintro ⟨rfl, hready, hchanged, hn⟩
    rw [exec_phaseEmit_of_frame hready hchanged (frame_eq_framed hready hn)] at h
    cases h
    rfl

/-! ## The empty-frame flag (10_state.md R24) -/

/-- The flag as a submission assigns it, read at the port. -/
theorem framed_inLen_eq_eight (s : State) :
    (s.framed.inLen == 8) = (frameLen s.lastReportedKey s.currentKey == 8) := by
  rw [Bool.eq_iff_iff, beq_iff_eq, beq_iff_eq, BitVec.toNat_inj.symm, toNat_framed_inLen]
  rfl

/-- A row that changes the flag is a class host-to-device SETUP or a submission. -/
theorem RowEffect.emptyFrame {i : Instr} {s t : State} (h : RowEffect i s t)
    (hne : t.pendingEmptyFrameRequired ≠ s.pendingEmptyFrameRequired) :
    (t.pendingEmptyFrameRequired = true
        ∧ ((∃ r b v d, i = .classH2d r b v d)
          ∨ ∃ e, RunsEvent i s e ∧ e.kind = 1 ∧ classify (swOf e.data) = .classH2d))
      ∨ (t.inSubmit = true ∧ t.pendingEmptyFrameRequired = (t.inLen == 8)) := by
  cases h
  case answer hflag =>
    obtain ⟨hset, hclass⟩ := hflag.resolve_left hne
    exact .inl ⟨hset, .inl hclass⟩
  case event e hi hrun =>
    obtain ⟨-, -, -, -, -, -, -, -, -, -, -, -, -, hflag⟩ := runEvent_next hrun
    by_cases hclass : e.kind = 1 ∧ classify (swOf e.data) = .classH2d
    · exact .inl ⟨hflag.trans (if_pos hclass), .inr ⟨e, hi, hclass⟩⟩
    · exact absurd (hflag.trans (if_neg hclass)) hne
  case emitFrame => exact .inr ⟨rfl, (framed_inLen_eq_eight s).symm⟩
  all_goals exact absurd rfl hne

/-! ## The input ports (10_state.md R30) -/

/-- The state with other values on its input ports. -/
def State.setPins (s : State) (p : Pins) : State := { s with pins := p }

/-- The driving of the ports after a step forgets what they held. -/
theorem drivePins_setPins (s : State) (p : Pins) : (s.setPins p).drivePins = s.drivePins := by
  rw [drivePins_eq, drivePins_eq]
  rfl

theorem thenDrivePins_setPins (r : Result) (p : Pins) :
    thenDrivePins (andThen r fun t => .next (t.setPins p)) = thenDrivePins r := by
  cases r
  case next t => exact congrArg Host.Outcome.next (drivePins_setPins t p)
  all_goals rfl

theorem dispatchSetup_setPins (sw : Word32) (s : State) (p : Pins) :
    dispatchSetup sw (s.setPins p) = andThen (dispatchSetup sw s) fun t => .next (t.setPins p) := by
  unfold dispatchSetup
  cases classify sw <;> rfl

/-- The run of an event neither reads nor writes the ports: POLL has taken the event from them. -/
theorem runEvent_setPins (e : EngineEvent) (s : State) (p : Pins) :
    runEvent e (s.setPins p) = andThen (runEvent e s) fun t => .next (t.setPins p) := by
  obtain ⟨k, l, d⟩ := e
  unfold runEvent
  dsimp only
  split
  case h_2 => exact dispatchSetup_setPins _ s p
  case h_3 => unfold execEvtCtrlRead; split <;> rfl
  case h_4 => unfold execEvtCtrlWrite; split <;> rfl
  case h_5 => unfold execEvtIntOut; split <;> rfl
  all_goals rfl

theorem stagePackets_setPins (s : State) (p : Pins) (n : Nat) (seq : List Packet) :
    (s.setPins p).stagePackets n seq = (s.stagePackets n seq).setPins p := by
  induction seq generalizing s n with
  | nil => rfl
  | cons pkt rest ih => exact ih (s.stagePacket n pkt) (n + 1)

theorem framed_setPins (s : State) (p : Pins) : (s.setPins p).framed = s.framed.setPins p := by
  have hstaged : (s.setPins p).stagedInbuf = s.stagedInbuf :=
    (congrArg State.inbuf
      (stagePackets_setPins s p 0 (build s.lastReportedKey s.currentKey))).trans rfl
  rw [State.framed, hstaged]
  rfl

/-- EMIT reads no port but `in_ready`. -/
theorem exec_phaseEmit_setPins {s : State} {p : Pins} (h : p.inReady = s.pins.inReady) :
    exec .phaseEmit (s.setPins p)
      = andThen (exec .phaseEmit s) fun t => .next (t.setPins p) := by
  obtain ⟨hidle, hexec⟩ | ⟨hready, hchanged, hn, hexec⟩ | ⟨hready, hchanged, hn, hexec⟩ :=
    exec_phaseEmit_cases s
  · rw [hexec, exec_phaseEmit_of_idle (s := s.setPins p) (by rwa [← h] at hidle)]
    rfl
  · have hready' : (s.setPins p).pins.inReady = true := h.trans hready
    rw [hexec, exec_phaseEmit_of_frame hready' hchanged (frame_of_empty hready' hn)]
    rfl
  · have hready' : (s.setPins p).pins.inReady = true := h.trans hready
    rw [hexec, exec_phaseEmit_of_frame hready' hchanged (frame_eq_framed hready' hn),
      framed_setPins]
    rfl

/-- A phase does not depend on the ports that are read in other phases alone. -/
theorem exec_phase_setPins {s : State} {p : Pins}
    (hpoll : s.phase = .poll → eventOf p = eventOf s.pins)
    (hsample : s.phase = .sample → p.keyN = s.pins.keyN)
    (hemit : s.phase = .emit → p.inReady = s.pins.inReady) :
    exec (decodePhase (phaseCode s.phase)) (s.setPins p)
      = andThen (exec (decodePhase (phaseCode s.phase)) s) fun t => .next (t.setPins p) := by
  cases hphase : s.phase
  case kick => rfl
  case poll =>
    change runEvent (eventOf p) _ = andThen (runEvent (eventOf s.pins) s) _
    rw [hpoll hphase]
    exact runEvent_setPins _ s p
  case sample =>
    change exec .phaseSample _ = andThen (exec .phaseSample s) _
    rw [exec_phaseSample, exec_phaseSample, andThen_next, State.setPins, hsample hphase]
    rfl
  case emit => exact exec_phaseEmit_setPins (hemit hphase)

/-! ## What the host hears (43_packet_builder.md R188) -/

theorem soundOf_note {k : Byte} (h : k ≠ noKey) : soundOf k = [k] := if_neg h

@[simp] theorem soundOf_noKey : soundOf noKey = [] := rfl

theorem length_soundOf_le (k : Byte) : (soundOf k).length ≤ 1 := by
  unfold soundOf
  split <;> simp

/-- The packets of a transition end the old note, if any, and start the new one, if any. -/
theorem soundAfter_build (prev cur : Byte) :
    soundAfter (soundOf prev) ((build prev cur).flatMap packetBytes) = soundOf cur := by
  by_cases hp : prev = noKey
  · subst hp
    by_cases hc : cur = noKey
    · subst hc
      rfl
    · simp [build_noKey_note hc, soundOf_note hc, soundAfter]
  · by_cases hc : cur = noKey
    · subst hc
      simp [build_note_noKey hp, soundOf_note hp, soundAfter]
    · simp [build_note_note hp hc, soundOf_note hp, soundOf_note hc, soundAfter]

/-- What EMIT submits takes the host from the old reported key's note to the new one's. -/
theorem exec_phaseEmit_sound {s t : State} (hs : s.inbuf.wf bufferFill inbufSize = true)
    (hlow : s.inSubmit = false) (h : exec .phaseEmit s = .next t) :
    soundAfter (soundOf s.lastReportedKey) t.submittedBytes = soundOf t.lastReportedKey := by
  obtain ⟨-, hexec⟩ | ⟨-, -, hn, hexec⟩ | ⟨-, -, -, hexec⟩ := exec_phaseEmit_cases s
  all_goals
    rw [hexec] at h
    cases h
  · rw [submittedBytes_setPhase, submittedBytes_of_no_submit hlow]
    rfl
  · obtain ⟨hrep, hcur⟩ := frameLen_eq_zero.1 hn
    rw [submittedBytes_setPhase, submittedBytes_completeFrame, submittedBytes_of_no_submit hlow,
      hrep]
    exact congrArg soundOf hcur.symm
  · exact (congrArg _ (framed_submittedBytes hs)).trans (soundAfter_build _ _)

/-- No other row submits, and none writes the reported key. -/
theorem exec_sound {i : Instr} {s t : State} (hs : s.inbuf.wf bufferFill inbufSize = true)
    (hlow : s.inSubmit = false) (h : exec i s = .next t) :
    soundAfter (soundOf s.lastReportedKey) t.submittedBytes = soundOf t.lastReportedKey := by
  by_cases hi : i = .phaseEmit
  · subst hi
    exact exec_phaseEmit_sound hs hlow h
  · have hsubmit : t.inSubmit = false :=
      ((exec_effect h).inSubmit.resolve_right fun ⟨hemit, _⟩ => hi hemit).trans hlow
    rw [submittedBytes_of_no_submit hsubmit,
      (exec_keeps_lastReportedKey_or_emits h).resolve_right hi]
    rfl

/-! ## The obligations -/

/-- Settles O41: a reset, or a row between the begin of the step and the driving of the ports. -/
theorem everyStepKeepsTheInvariant : Obligations.EveryStepKeepsTheInvariant := by
  intro s t hinv hstep
  obtain ⟨-, rfl⟩ | ⟨i, u, -, -, hexec, rfl⟩ := step_eq_next hstep
  · exact drivePins_inv.2 (takeReset_inv hinv)
  · exact drivePins_inv.2 ((exec_effect hexec).keeps_inv (beginStep_inv.2 hinv))

/-- Settles O53: every step begins with the strobe at 0. -/
theorem hostHearsAtMostOneNote : Obligations.HostHearsAtMostOneNote := by
  intro s t hs hrst hstep
  refine ⟨?_, length_soundOf_le _⟩
  obtain ⟨hreset, -⟩ | ⟨i, u, -, -, hexec, rfl⟩ := step_eq_next hstep
  · exact absurd (hrst.symm.trans hreset) Bool.false_ne_true
  · rw [submittedBytes_drivePins, State.drivePins_lastReportedKey]
    exact exec_sound (s := s.beginStep) hs rfl hexec

/-- Settles O27. -/
theorem strobeMeansAFramedChange : Obligations.StrobeMeansAFramedChange := by
  intro s t hstep
  obtain ⟨hrst, rfl⟩ | ⟨i, u, hrst, hfetch, hexec, rfl⟩ := step_eq_next hstep
  · simp [hrst]
  · rw [State.drivePins_inSubmit, exec_raises_inSubmit_iff hexec s.beginStep_inSubmit,
      frameLen_ne_zero, hrst, hfetch]
    simp [noKey]

/-- Settles O36. -/
theorem romIsNeverWritten : Obligations.RomIsNeverWritten :=
  ⟨fun _ _ _ h => memRead_eq_of_rom_eq (exec_next_frame h).1,
    fun _ _ h => memRead_eq_of_rom_eq (step_keeps_rom h)⟩

/-- Settles O42, by the phases' own writes of the phase register. -/
theorem phaseOrderIsFixed : Obligations.PhaseOrderIsFixed := by
  intro s t hrst hslot hstep
  rw [step_of_phase hrst hslot rfl] at hstep
  obtain ⟨u, hexec, rfl⟩ := thenDrivePins_eq_next hstep
  rw [State.drivePins_phase]
  exact exec_phase_next_phase (s := s.beginStep) hexec

/-- Settles O43: of the phases POLL alone can stop. -/
theorem blockNeverStops : Obligations.BlockNeverStops := by
  intro s hslot hevent
  cases hrst : s.pins.rst
  case true =>
    exact ⟨_, step_of_rst hrst, fun _ => by simp, fun h => absurd h.symm Bool.false_ne_true⟩
  case false =>
    obtain ⟨u, hexec⟩ := exec_phase_goes_on (s := s.beginStep) hevent
    have hstep : step s = .next u.drivePins :=
      (step_of_phase hrst hslot rfl).trans (congrArg thenDrivePins hexec)
    refine ⟨_, hstep, fun h => absurd h Bool.false_ne_true, fun _ hemit => ?_⟩
    rw [State.drivePins_phase, exec_phase_next_phase hexec, State.beginStep_phase, hemit]
    rfl

/-- Settles O44: a row stops on an event alone, and an empty slot always decodes to the phase. -/
theorem stepStopsOnlyOnARefusedEvent : Obligations.StepStopsOnlyOnARefusedEvent := by
  intro s r hstop
  obtain ⟨-, hstep⟩ | ⟨i, -, hfetch, hstep⟩ | ⟨err, -, hfetch, hstep⟩ := step_cases s
  all_goals rw [hstep] at hstop
  · cases hstop
  · obtain ⟨u, hexec⟩ | ⟨e, he, hkind, hacc, hexec⟩ := exec_next_or_refuses i s.beginStep
    all_goals
      rw [hexec] at hstop
      cases hstop
    refine .inl ⟨e, rfl, hkind, hacc, fun hslot => ?_⟩
    rw [fetch_phase hslot] at hfetch
    cases hfetch
    exact runsEvent_decodePhase he
  · cases hstop
    cases hslot : s.slot
    case none =>
      rw [fetch_phase hslot] at hfetch
      cases hfetch
    case some sl => exact .inr ⟨sl, by rw [fetchSlot, hslot]; rfl, rfl⟩

/-- Settles O45: EMIT reads `in_ready` before it submits, so no row faults. -/
theorem submitWhileBusyNeverHappens : Obligations.SubmitWhileBusyNeverHappens := by
  refine ⟨fun n s hbusy => ⟨_, _, submit_busy n hbusy⟩, fun s e hfault => ?_⟩
  obtain ⟨-, hstep⟩ | ⟨i, -, -, hstep⟩ | ⟨err, -, -, hstep⟩ := step_cases s
  all_goals rw [hstep] at hfault
  · cases hfault
  · obtain ⟨u, hexec⟩ | ⟨_, -, -, -, hexec⟩ := exec_next_or_refuses i s.beginStep
    all_goals
      rw [hexec] at hfault
      cases hfault
  · cases hfault

/-- Settles O47: the rows that change the flag, with the event read from the row or the ports. -/
theorem onlyTwoRulesWriteTheEmptyFrameFlag : Obligations.OnlyTwoRulesWriteTheEmptyFrameFlag := by
  intro s t hrst hstep hne
  obtain ⟨hreset, -⟩ | ⟨i, u, -, hfetch, hexec, rfl⟩ := step_eq_next hstep
  · exact absurd (hrst.symm.trans hreset) Bool.false_ne_true
  · rw [State.drivePins_pendingEmptyFrameRequired] at hne ⊢
    rw [State.drivePins_inSubmit, State.drivePins_inLen]
    obtain ⟨hset, hclass | ⟨e, rfl | ⟨rfl, rfl⟩, hkind, hclass⟩⟩ | hsubmit :=
      (exec_effect hexec).emptyFrame hne
    · exact .inl ⟨hset, i, hfetch, .inl hclass⟩
    · exact .inl ⟨hset, _, hfetch, .inr (.inl ⟨_, _, decodeEvent_of_kind_one hkind, hclass⟩)⟩
    · exact .inl ⟨hset, _, hfetch, .inr (.inr ⟨rfl, hkind, hclass⟩)⟩
    · exact .inr hsubmit

/-- Settles O48: the ports that the phase does read are the same, and all are driven again. -/
theorem inputsAreReadOnlyInTheirPhase : Obligations.InputsAreReadOnlyInTheirPhase := by
  intro s p hslot hrst hprst hpoll hsample hemit
  have hevent : s.phase = .poll → eventOf p = eventOf s.pins := fun h => by
    obtain ⟨hkind, hlen, hdata⟩ := hpoll h
    rw [eventOf, hkind, hlen, hdata]
    rfl
  have hexec := exec_phase_setPins (s := s.beginStep) hevent hsample hemit
  calc step (s.setPins p)
      = thenDrivePins (exec (decodePhase (phaseCode s.phase)) (s.beginStep.setPins p)) :=
        step_of_phase hprst hslot rfl
    _ = thenDrivePins (exec (decodePhase (phaseCode s.phase)) s.beginStep) :=
        (congrArg thenDrivePins hexec).trans (thenDrivePins_setPins _ p)
    _ = step s := (step_of_phase hrst hslot rfl).symm

/-- Settles O37. -/
theorem stepRunsTheDecodedRow : Obligations.StepRunsTheDecodedRow :=
  ⟨fun _ _ => step_of_fetch, thenDrivePins_next, thenDrivePins_refused,
    fun _ => ⟨rfl, rfl, rfl, rfl, rfl, rfl, rfl, rfl⟩, fun _ => fetch_phase,
    fun _ _ => fetch_of_slot, drivePins_eq⟩

/-- Settles O38. -/
theorem assertedResetClearsEveryRegister : Obligations.AssertedResetClearsEveryRegister := by
  intro s hrst
  refine ⟨_, step_of_rst hrst, ?_⟩
  simp [State.regs, State.zlpReq]

/-- Settles O39. -/
theorem resetHoldsTheSpecsValues : Obligations.ResetHoldsTheSpecsValues :=
  ⟨rfl, rfl, rfl, rfl, rfl, rfl, rfl, rfl, romByte_eq_romImage rfl⟩

/-- Settles O40. -/
theorem resetMeetsTheInvariant : Obligations.ResetMeetsTheInvariant :=
  inv_iff.2 ⟨⟨rfl, rfl⟩, rfl, rfl, rfl⟩

end Sys2Proof.Machine
end

section
/-!
The descriptor ROM (40_descriptor_rom.md R116, R117, R120, R121, R123, 20_memory.md R51): its image
in three regions, the length fields, and the obligations of this family.
-/

namespace Sys2Proof.Machine

/-! ## The image by its regions (20_memory.md R51) -/

theorem romImage_device {a : Nat} (h : a ≤ 0x11) : romImage a = deviceDescriptor.getD a 0 :=
  if_pos (Nat.lt_succ_of_le h)

theorem romImage_configuration {a : Nat} (h : 0x12 ≤ a) (h' : a ≤ 0x76) :
    romImage a = configurationDescriptor.getD (a - 0x12) 0 := by
  rw [romImage, configurationBase, configurationLen, if_neg (by omega), if_pos (by omega)]

theorem romImage_fill {a : Nat} (h : 0x77 ≤ a) : romImage a = 0 := by
  rw [romImage, configurationBase, configurationLen, if_neg (by omega), if_neg (by omega)]

theorem romByte_of_lt {s : State} (hrom : s.rom = []) {a : Nat} (h : a < 128) :
    s.romByte a = romImage a := by
  rw [romByte_eq_romImage hrom, Nat.mod_eq_of_lt h]

/-- With no cell listed as different, a read gives the image at each address modulo 128. -/
theorem memRead_eq_map {s : State} (hrom : s.rom = []) (a n : Nat) :
    s.memRead a n = (List.range n).map fun i => romImage ((a + i) % 128) := by
  simp only [State.memRead, romByte_eq_romImage hrom]

theorem memRead_add (s : State) (a m n : Nat) :
    s.memRead a (m + n) = s.memRead a m ++ s.memRead (a + m) n := by
  simp [State.memRead, List.range_add, Nat.add_assoc]

/-! ## Reading a descriptor (R123) -/

/-- A read of the first bytes of a list that lies in the ROM. -/
theorem memRead_eq_take {s : State} {bytes : List Byte} {a : Nat}
    (h : ∀ j (hj : j < bytes.length), s.romByte (a + j) = bytes[j]) (n : Nat) :
    s.memRead a (min bytes.length n) = bytes.take n := by
  apply List.ext_getElem
  · simp [State.memRead, min_comm]
  · intro j h1 h2
    have hj : j < bytes.length := h2.trans_le (List.length_take_le' n bytes)
    simp [State.memRead, h j hj]

theorem romByte_device {s : State} (hrom : s.rom = []) {j : Nat}
    (hj : j < deviceDescriptor.length) : s.romByte (0 + j) = deviceDescriptor[j] := by
  have hlt : j < 18 := hj
  rw [Nat.zero_add, romByte_of_lt hrom (by omega), romImage_device (by omega),
    List.getD_eq_getElem]

theorem romByte_configuration {s : State} (hrom : s.rom = []) {j : Nat}
    (hj : j < configurationDescriptor.length) :
    s.romByte (0x12 + j) = configurationDescriptor[j] := by
  have hlt : j < 101 := hj
  rw [romByte_of_lt hrom (by omega), romImage_configuration (by omega) (by omega),
    Nat.add_sub_cancel_left, List.getD_eq_getElem]

theorem memRead_device {s : State} (hrom : s.rom = []) :
    s.memRead 0 18 = deviceDescriptor :=
  memRead_eq_take (fun _ => romByte_device hrom) 18

theorem memRead_configuration {s : State} (hrom : s.rom = []) :
    s.memRead 0x12 101 = configurationDescriptor :=
  memRead_eq_take (fun _ => romByte_configuration hrom) 101

theorem memRead_fill {s : State} (hrom : s.rom = []) :
    s.memRead 0x77 9 = List.replicate 9 0 := by
  refine List.map_eq_replicate_iff.2 fun i hi => ?_
  have hlt : i < 9 := List.mem_range.1 hi
  rw [romByte_of_lt hrom (by omega), romImage_fill (by omega)]

/-! ## The obligations -/

/-- Settles O32: the two descriptors written out one after the other, and the fill, are the dump. -/
theorem romHoldsTheDump : Obligations.RomHoldsTheDump := by
  intro s hrom
  have hparts : s.memRead 0 (18 + 101 + 9)
      = deviceDescriptor ++ configurationDescriptor ++ List.replicate 9 0 := by
    rw [memRead_add, memRead_add, Nat.zero_add, Nat.zero_add, memRead_device hrom,
      memRead_configuration hrom, memRead_fill hrom]
  exact hparts.trans rfl

/-- Settles O33, by evaluation of the image: no length byte is a build parameter. -/
theorem descriptorLengthsAgree : Obligations.DescriptorLengthsAgree := by
  refine ⟨fun s hrom => ?_, length_configurationDescriptor, rfl, rfl, rfl⟩
  simp only [State.romField, romByte_eq_romImage hrom]
  exact ⟨rfl, rfl, rfl, rfl, rfl⟩

/-- Settles O34. -/
theorem romAddressesWrap : Obligations.RomAddressesWrap := by
  intro s a n hrom
  refine ⟨memRead_eq_map hrom a n, fun h => ?_, fun h h' => ?_, fun h h' => ?_, rfl⟩
  · rw [romByte_of_lt hrom (by omega), romImage_device h]
  · rw [romByte_of_lt hrom (by omega), romImage_configuration h h']
  · rw [romByte_of_lt hrom (by omega), romImage_fill h]

/-- Settles O35: a lookup answers its descriptor's base and length. -/
theorem descriptorAnswerPointsAtItsDescriptor :
    Obligations.DescriptorAnswerPointsAtItsDescriptor := by
  intro r v d s wLength hrom
  exact ⟨⟨_, exec_getDescriptorDevice r v s,
      memRead_eq_take (fun _ => romByte_device hrom) wLength⟩,
    fun _ => ⟨_, exec_getDescriptorConfig r v d s,
      memRead_eq_take (fun _ => romByte_configuration hrom) wLength⟩⟩

end Sys2Proof.Machine
end

section
/-!
Ticks (44_main_loop.md R205 to R210, 70_reset_and_hazards.md R242): the steps of a tick one after
another, what they compute, runs of ticks, and the obligations of this family.
-/

namespace Sys2Proof.Machine

/-! ## The steps before EMIT -/

/-- A state stands before phase `p` with nothing offered, and its ports take the values `seq` one
step after another. -/
structure Awaits (s : State) (p : Phase) (seq : List Pins) : Prop where
  phase : s.phase = p
  ports : s.pins :: s.script = seq
  slot : s.slot = none

theorem Awaits.pins_eq {s : State} {p : Phase} {a : Pins} {seq : List Pins}
    (h : Awaits s p (a :: seq)) : s.pins = a :=
  (List.cons_eq_cons.1 h.ports).1

theorem Awaits.script_eq {s : State} {p : Phase} {a : Pins} {seq : List Pins}
    (h : Awaits s p (a :: seq)) : s.script = seq :=
  (List.cons_eq_cons.1 h.ports).2

/-- Steps before EMIT take the registers to `r` and leave the ROM and the staging buffer. -/
structure Reaches (s t : State) (r : KeyRegs) : Prop where
  regs : t.regs = r
  rom : t.rom = s.rom
  inbuf : t.inbuf = s.inbuf

@[simp] theorem State.drivePins_regs (s : State) : s.drivePins.regs = s.regs := by
  simp [State.regs]

theorem Reaches.drivePins {s u : State} {r : KeyRegs} (h : Reaches s u r) :
    Reaches s u.drivePins r :=
  ⟨by rw [State.drivePins_regs, h.regs], by rw [State.drivePins_rom, h.rom],
    by rw [State.drivePins_inbuf, h.inbuf]⟩

/-- A step of a tick is the phase's, with the ports arranged for it. -/
theorem Awaits.step_eq {s u : State} {p : Phase} {a : Pins} {seq : List Pins}
    (h : Awaits s p (a :: seq)) (hrst : a.rst = false)
    (hexec : exec (decodePhase (phaseCode p)) s.beginStep = .next u) :
    step s = .next u.drivePins := by
  rw [← h.pins_eq] at hrst
  rw [step_of_phase hrst h.slot h.phase, hexec, thenDrivePins_next]

/-- After it the ports hold the next values arranged. -/
theorem Awaits.drivePins {s u : State} {i : Instr} {p : Phase} {a : Pins} {seq : List Pins}
    (h : Awaits s p (a :: seq)) (hseq : seq ≠ []) (hexec : exec i s.beginStep = .next u) :
    Awaits u.drivePins u.phase seq := by
  obtain ⟨b, rest, rfl⟩ := List.exists_cons_of_ne_nil hseq
  obtain ⟨-, -, hscript, -, hslot⟩ := exec_next_frame hexec
  refine ⟨State.drivePins_phase u, ?_, ?_⟩
  · rw [drivePins_cons (hscript.trans h.script_eq)]
  · rw [State.drivePins_slot, hslot, State.beginStep_slot]

theorem step_kick {s : State} {a : Pins} {seq : List Pins} (h : Awaits s .kick (a :: seq))
    (hrst : a.rst = false) (hseq : seq ≠ []) :
    ∃ t, step s = .next t ∧ Awaits t .poll seq ∧ Reaches s t s.regs := by
  have hexec := exec_phaseKick s.beginStep
  have hu : Reaches s (s.beginStep.kickWatchdog.setPhase .poll) s.regs := ⟨rfl, rfl, rfl⟩
  exact ⟨_, h.step_eq hrst hexec, h.drivePins hseq hexec, hu.drivePins⟩

/-- A POLL step that presents an accepted event, or none. -/
theorem step_poll {s : State} {e : EngineEvent} {seq : List Pins}
    (h : Awaits s .poll (pollPins e :: seq)) (hseq : seq ≠ [])
    (he : e.kind = 0 ∨ acceptedEvent e = true) :
    ∃ t, step s = .next t ∧ Awaits t (if e.kind = 0 then .sample else .poll) seq
      ∧ Reaches s t (eventRegs s.regs e) := by
  obtain ⟨u, hrun⟩ := runEvent_accepted s.beginStep he
  obtain ⟨-, -, -, hrom, hinbuf, -, -, -, -, -, -, hphase, -⟩ := runEvent_next hrun
  have hexec : exec .phasePoll s.beginStep = .next u := by
    change runEvent (eventOf s.pins) s.beginStep = .next u
    rw [h.pins_eq]
    exact hrun
  have hu : Reaches s u (eventRegs s.regs e) :=
    ⟨runEvent_regs (s := s.beginStep) hrun, hrom, hinbuf⟩
  have hnext := h.drivePins hseq hexec
  rw [hphase, State.beginStep_phase, h.phase] at hnext
  exact ⟨_, h.step_eq rfl hexec, hnext, hu.drivePins⟩

theorem step_sample {s : State} {keyN : BitVec 6} {seq : List Pins}
    (h : Awaits s .sample (samplePins keyN :: seq)) (hseq : seq ≠ []) :
    ∃ t, step s = .next t ∧ Awaits t .emit seq ∧ Reaches s t (sampleRegs keyN s.regs) := by
  have hexec := exec_phaseSample s.beginStep
  rw [State.beginStep_pins, h.pins_eq, State.detectEdge_eq] at hexec
  refine ⟨_, h.step_eq rfl hexec, h.drivePins hseq hexec, Reaches.drivePins ?_⟩
  exact ⟨rfl, rfl, rfl⟩

/-! ## EMIT, the last step -/

/-- The bytes an EMIT submits for the registers it finds (R207). -/
def emitSubmission (inReady : Bool) (r : KeyRegs) : List Byte :=
  if inReady = true ∧ r.changed = true then
    (build r.lastReportedKey r.currentKey).flatMap packetBytes
  else []

/-- A tick ends at KICK with these registers and submitted bytes, and with the ROM as before. -/
structure TickEnds (s t : State) (r : KeyRegs) (bytes : List Byte) : Prop where
  phase : t.phase = .kick
  regs : t.regs = r
  submitted : t.submittedBytes = bytes
  rom : t.rom = s.rom
  inbuf : t.inbuf.wf bufferFill inbufSize = true

theorem TickEnds.drivePins {s u : State} {r : KeyRegs} {bytes : List Byte}
    (h : TickEnds s u r bytes) : TickEnds s u.drivePins r bytes :=
  ⟨by rw [State.drivePins_phase, h.phase], by rw [State.drivePins_regs, h.regs],
    by rw [submittedBytes_drivePins, h.submitted], by rw [State.drivePins_rom, h.rom],
    by rw [State.drivePins_inbuf, h.inbuf]⟩

theorem emitRegs_of_empty {r : KeyRegs} (hchanged : r.changed = true)
    (hn : frameLen r.lastReportedKey r.currentKey = 0) :
    emitRegs true r = ⟨r.currentKey, r.currentKey, false, r.pendingEmptyFrameRequired⟩ := by
  rw [emitRegs, if_pos ⟨rfl, hchanged⟩, build_eq_nil_of_frameLen hn]
  rfl

theorem emitRegs_of_frame {r : KeyRegs} (hchanged : r.changed = true)
    (hn : frameLen r.lastReportedKey r.currentKey ≠ 0) :
    emitRegs true r = ⟨r.currentKey, r.currentKey, false,
      frameLen r.lastReportedKey r.currentKey == 8⟩ := by
  rw [emitRegs, if_pos ⟨rfl, hchanged⟩]
  exact congrArg (KeyRegs.mk _ _ _) (if_pos (Nat.pos_of_ne_zero hn))

theorem exec_phaseEmit_ends {s : State} (hs : s.inbuf.wf bufferFill inbufSize = true)
    (hlow : s.inSubmit = false) :
    ∃ t, exec .phaseEmit s = .next t
      ∧ TickEnds s t (emitRegs s.pins.inReady s.regs) (emitSubmission s.pins.inReady s.regs) := by
  obtain ⟨hidle, hexec⟩ | ⟨hready, hchanged, hn, hexec⟩ | ⟨hready, hchanged, hn, hexec⟩ :=
    exec_phaseEmit_cases s
  · exact ⟨_, hexec, rfl, (if_neg hidle).symm,
      (submittedBytes_of_no_submit hlow).trans (if_neg hidle).symm, rfl, hs⟩
  · rw [hready, emitRegs_of_empty hchanged hn, emitSubmission, if_pos ⟨rfl, hchanged⟩]
    refine ⟨_, hexec, rfl, rfl, ?_, rfl, hs⟩
    exact (submittedBytes_of_no_submit hlow).trans
      (congrArg (List.flatMap packetBytes) (build_eq_nil_of_frameLen hn)).symm
  · rw [hready, emitRegs_of_frame hchanged hn, emitSubmission, if_pos ⟨rfl, hchanged⟩]
    exact ⟨_, hexec, rfl, rfl, framed_submittedBytes hs, rfl, wf_stagedInbuf hs⟩

theorem step_emit {s : State} {inReady : Bool} {seq : List Pins}
    (h : Awaits s .emit (emitPins inReady :: seq)) (hs : s.inbuf.wf bufferFill inbufSize = true) :
    ∃ t, step s = .next t
      ∧ TickEnds s t (emitRegs inReady s.regs) (emitSubmission inReady s.regs) := by
  obtain ⟨u, hexec, hu⟩ := exec_phaseEmit_ends (s := s.beginStep) hs rfl
  rw [State.beginStep_pins, h.pins_eq] at hu
  have hends : TickEnds s u _ _ := ⟨hu.phase, hu.regs, hu.submitted, hu.rom, hu.inbuf⟩
  exact ⟨_, h.step_eq rfl hexec, hends.drivePins⟩

/-! ## A tick (R207) -/

theorem Reaches.trans {s t u : State} {r : KeyRegs} {f : KeyRegs → KeyRegs} (h : Reaches s t r)
    (h' : Reaches t u (f t.regs)) : Reaches s u (f r) :=
  ⟨by rw [h'.regs, h.regs], h'.rom.trans h.rom, h'.inbuf.trans h.inbuf⟩

theorem ne_zero_of_acceptedEvent {e : EngineEvent} (h : acceptedEvent e = true) : e.kind ≠ 0 := by
  rintro hkind
  simp [acceptedEvent, hkind] at h

/-- The POLL of a tick: the events one step each, in order, then NONE. -/
theorem runSteps_poll {events : List EngineEvent} {s : State} {seq : List Pins}
    (h : Awaits s .poll (events.map pollPins ++ pollPins noneEvent :: seq)) (hseq : seq ≠ [])
    (he : ∀ e ∈ events, acceptedEvent e = true) (n : Nat) :
    ∃ t, runSteps (n + 1 + events.length) s = runSteps n t ∧ Awaits t .sample seq
      ∧ Reaches s t (events.foldl eventRegs s.regs) := by
  induction events generalizing s with
  | nil =>
    obtain ⟨t, hstep, hnext, hreach⟩ := step_poll h hseq (.inl rfl)
    exact ⟨t, runSteps_succ hstep, hnext, hreach⟩
  | cons e events ih =>
    obtain ⟨hacc, he⟩ := List.forall_mem_cons.1 he
    obtain ⟨t, hstep, hnext, hreach⟩ := step_poll h (by simp) (.inr hacc)
    rw [if_neg (ne_zero_of_acceptedEvent hacc)] at hnext
    obtain ⟨u, hrun, hsample, hreach'⟩ := ih hnext he
    exact ⟨u, (runSteps_succ hstep).trans hrun, hsample,
      hreach.trans (f := events.foldl eventRegs) hreach'⟩

/-- The steps of a tick, KICK, POLL, SAMPLE and EMIT, compute the tick of the listing. -/
theorem runTick_ends {s : State} {i : TickInputs} (hphase : s.phase = .kick)
    (hs : s.inbuf.wf bufferFill inbufSize = true) (he : ∀ e ∈ i.events, acceptedEvent e = true) :
    ∃ t, runTick i s = .next t ∧ TickEnds s t (tickRegs i s.regs) (tickSubmission i s.regs) := by
  have hload : Awaits (s.loadTick i) .kick (Pins.idle :: (s.loadTick i).script) :=
    ⟨hphase, rfl, rfl⟩
  obtain ⟨s1, hkick, hpoll, hregs1, hrom1, hinbuf1⟩ :=
    step_kick hload rfl (by simp [State.loadTick])
  have hreach1 : Reaches s s1 s.regs := ⟨hregs1, hrom1, hinbuf1⟩
  obtain ⟨s2, hevents, hsample, hreach2⟩ := runSteps_poll hpoll (by simp) he 2
  obtain ⟨s3, hsampled, hemit, hreach3⟩ := step_sample hsample (by simp)
  have hreach : Reaches s s3 (regsBeforeEmit i s.regs) :=
    (hreach1.trans (f := i.events.foldl eventRegs) hreach2).trans (f := sampleRegs i.keyN) hreach3
  obtain ⟨t, hemitted, hends⟩ := step_emit hemit (by rwa [hreach.inbuf])
  refine ⟨t, ?_, ?_⟩
  · calc runTick i s
        = runSteps (2 + 1 + i.events.length + 1) (s.loadTick i) := by
          rw [runTick, tickSteps]
          congr 1
          omega
      _ = runSteps (2 + 1 + i.events.length) s1 := runSteps_succ hkick
      _ = runSteps 2 s2 := hevents
      _ = runSteps 1 s3 := runSteps_succ hsampled
      _ = .next t := runSteps_succ hemitted
  · obtain ⟨hkicks, hregs, hsubmitted, hrom, hinbuf⟩ := hends
    rw [hreach.regs] at hregs hsubmitted
    exact ⟨hkicks, hregs, hsubmitted, hrom.trans hreach.rom, hinbuf⟩

/-! ## The registers over a tick -/

/-- The events of a tick write the empty-frame flag alone. -/
theorem foldl_eventRegs_keys (events : List EngineEvent) (r : KeyRegs) :
    (events.foldl eventRegs r).lastReportedKey = r.lastReportedKey
      ∧ (events.foldl eventRegs r).changed = r.changed := by
  induction events generalizing r with
  | nil => exact ⟨rfl, rfl⟩
  | cons e events ih =>
    obtain ⟨hrep, hchanged⟩ := ih (eventRegs r e)
    rw [List.foldl_cons, hrep, hchanged, eventRegs]
    split <;> exact ⟨rfl, rfl⟩

@[simp] theorem regsBeforeEmit_lastReportedKey (i : TickInputs) (r : KeyRegs) :
    (regsBeforeEmit i r).lastReportedKey = r.lastReportedKey :=
  (foldl_eventRegs_keys i.events r).1

@[simp] theorem regsBeforeEmit_currentKey (i : TickInputs) (r : KeyRegs) :
    (regsBeforeEmit i r).currentKey = sample (~~~i.keyN) := rfl

@[simp] theorem regsBeforeEmit_changed (i : TickInputs) (r : KeyRegs) :
    (regsBeforeEmit i r).changed
      = if sample (~~~i.keyN) ≠ r.lastReportedKey then true else r.changed := by
  obtain ⟨hrep, hchanged⟩ := foldl_eventRegs_keys i.events r
  rw [regsBeforeEmit, sampleRegs, hrep, hchanged]

theorem tickRegs_of_busy {i : TickInputs} (h : i.inReady = false) (r : KeyRegs) :
    tickRegs i r = regsBeforeEmit i r := by
  simp [tickRegs, emitRegs, h]

theorem tickSubmission_of_busy {i : TickInputs} (h : i.inReady = false) (r : KeyRegs) :
    tickSubmission i r = [] := by
  simp [tickSubmission, h]

/-- After a ready tick nothing is pending and the tick's sample is reported: either EMIT framed it,
or SAMPLE had found the reported key. -/
theorem tickRegs_of_ready {i : TickInputs} (h : i.inReady = true) (r : KeyRegs) :
    (tickRegs i r).changed = false ∧ (tickRegs i r).lastReportedKey = sample (~~~i.keyN)
      ∧ (tickRegs i r).currentKey = sample (~~~i.keyN) := by
  rw [tickRegs, emitRegs, h]
  by_cases hchanged : (regsBeforeEmit i r).changed = true
  · rw [if_pos ⟨rfl, hchanged⟩]
    exact ⟨rfl, rfl, rfl⟩
  · rw [if_neg fun hgo => hchanged hgo.2]
    refine ⟨Bool.not_eq_true _ ▸ hchanged, ?_, rfl⟩
    by_contra hne
    refine hchanged ?_
    rw [regsBeforeEmit_changed, if_pos]
    rwa [regsBeforeEmit_lastReportedKey, eq_comm] at hne

theorem tickSubmission_of_ready {i : TickInputs} (h : i.inReady = true) {r : KeyRegs}
    (hchanged : (regsBeforeEmit i r).changed = true) :
    tickSubmission i r = (build r.lastReportedKey (sample (~~~i.keyN))).flatMap packetBytes := by
  rw [tickSubmission, if_pos ⟨h, hchanged⟩, regsBeforeEmit_lastReportedKey,
    regsBeforeEmit_currentKey]

/-! ## Runs of ticks -/

theorem runTicks_succ {inputs : Nat → TickInputs} {s t : State} {n : Nat}
    (h : runTicks inputs s n = .next t) : runTicks inputs s (n + 1) = runTick (inputs n) t := by
  rw [runTicks, h, andThen_next]

/-- Ticks with accepted events run on from KICK to KICK. -/
theorem runTicks_next {inputs : Nat → TickInputs} {s : State} (hphase : s.phase = .kick)
    (hs : s.inbuf.wf bufferFill inbufSize = true)
    (he : ∀ m, ∀ e ∈ (inputs m).events, acceptedEvent e = true) (n : Nat) :
    ∃ t, runTicks inputs s n = .next t ∧ t.phase = .kick
      ∧ t.inbuf.wf bufferFill inbufSize = true := by
  induction n with
  | zero => exact ⟨s, rfl, hphase, hs⟩
  | succ n ih =>
    obtain ⟨t, hrun, htphase, ht⟩ := ih
    obtain ⟨u, htick, hends⟩ := runTick_ends htphase ht (he n)
    exact ⟨u, (runTicks_succ hrun).trans htick, hends.phase, hends.inbuf⟩

/-- One tick more than a run that has come to `t`. -/
theorem runTicks_succ_ends {inputs : Nat → TickInputs} {s t : State} {n : Nat}
    (hphase : s.phase = .kick) (hs : s.inbuf.wf bufferFill inbufSize = true)
    (he : ∀ m, ∀ e ∈ (inputs m).events, acceptedEvent e = true)
    (hrun : runTicks inputs s n = .next t) :
    ∃ u, runTicks inputs s (n + 1) = .next u
      ∧ TickEnds t u (tickRegs (inputs n) t.regs) (tickSubmission (inputs n) t.regs) := by
  obtain ⟨t', hrun', htphase, ht⟩ := runTicks_next hphase hs he n
  obtain rfl : t = t' := by
    rw [hrun] at hrun'
    cases hrun'
    rfl
  obtain ⟨u, htick, hends⟩ := runTick_ends htphase ht (he n)
  exact ⟨u, (runTicks_succ hrun).trans htick, hends⟩

/-- A change is pending against this reported key (R205). -/
def PendingAgainst (k : Byte) (r : KeyRegs) : Prop := r.changed = true ∧ r.lastReportedKey = k

theorem PendingAgainst.regsBeforeEmit {k : Byte} {r : KeyRegs} (h : PendingAgainst k r)
    (i : TickInputs) : PendingAgainst k (regsBeforeEmit i r) := by
  obtain ⟨hchanged, hrep⟩ := h
  exact ⟨by rw [regsBeforeEmit_changed, hchanged, ite_self],
    by rw [regsBeforeEmit_lastReportedKey, hrep]⟩

/-- A busy tick submits nothing and leaves a pending change pending. -/
theorem PendingAgainst.tickRegs_of_busy {k : Byte} {r : KeyRegs} (h : PendingAgainst k r)
    {i : TickInputs} (hbusy : i.inReady = false) : PendingAgainst k (tickRegs i r) := by
  rw [Machine.tickRegs_of_busy hbusy]
  exact h.regsBeforeEmit i

/-- Through busy ticks a pending change stays pending. -/
theorem runTicks_of_busy {inputs : Nat → TickInputs} {s : State} {n : Nat}
    (hphase : s.phase = .kick) (hs : s.inbuf.wf bufferFill inbufSize = true)
    (he : ∀ m, ∀ e ∈ (inputs m).events, acceptedEvent e = true) (hchanged : s.changed = true)
    (hbusy : ∀ m, m < n → (inputs m).inReady = false) :
    ∃ t, runTicks inputs s n = .next t ∧ PendingAgainst s.lastReportedKey t.regs := by
  induction n with
  | zero => exact ⟨s, rfl, hchanged, rfl⟩
  | succ n ih =>
    obtain ⟨t, hrun, hpending⟩ := ih fun m hm => hbusy m (Nat.lt_succ_of_lt hm)
    obtain ⟨u, hrun', hends⟩ := runTicks_succ_ends hphase hs he hrun
    refine ⟨u, hrun', ?_⟩
    rw [hends.regs]
    exact hpending.tickRegs_of_busy (hbusy n (Nat.lt_succ_self n))

/-! ## The obligations -/

/-- Settles O49. -/
theorem tickRunsAsItsPhases : Obligations.TickRunsAsItsPhases := by
  intro s i hphase hs he
  obtain ⟨t, hrun, hends⟩ := runTick_ends hphase hs he
  exact ⟨t, hrun, hends.phase, hends.regs, hends.submitted, hends.rom⟩

/-- Settles O50, by induction on the busy ticks. -/
theorem deferredTransitionIsFramedWhenReady : Obligations.DeferredTransitionIsFramedWhenReady := by
  intro s inputs n hphase hs hchanged he hbusy hready
  constructor
  · intro m hm
    obtain ⟨t, hrun, hpending⟩ := runTicks_of_busy hphase hs he hchanged
      fun j hj => hbusy j (hj.trans hm)
    obtain ⟨u, hrun', hends⟩ := runTicks_succ_ends hphase hs he hrun
    obtain ⟨hu, hrep⟩ : PendingAgainst s.lastReportedKey u.regs := by
      rw [hends.regs]
      exact hpending.tickRegs_of_busy (hbusy m hm)
    exact ⟨u, hrun', hends.submitted.trans (tickSubmission_of_busy (hbusy m hm) _), hu, hrep⟩
  · obtain ⟨t, hrun, hpending⟩ := runTicks_of_busy hphase hs he hchanged hbusy
    obtain ⟨u, hrun', hends⟩ := runTicks_succ_ends hphase hs he hrun
    obtain ⟨hdone, hrep, -⟩ := tickRegs_of_ready hready t.regs
    obtain ⟨hbefore, -⟩ := hpending.regsBeforeEmit (inputs n)
    rw [← hends.regs] at hdone hrep
    refine ⟨u, hrun', hdone, hrep, ?_⟩
    rw [hends.submitted, tickSubmission_of_ready hready hbefore, hpending.2]

/-- Settles O51: any ready tick at or after the `n`-th clears the flag, and fairness gives one. -/
theorem fairRunsFramePendingTransitions : Obligations.FairRunsFramePendingTransitions := by
  intro s inputs hphase hs he hfair n
  obtain ⟨t, hrun, -⟩ := runTicks_next hphase hs he n
  refine ⟨t, hrun, fun _ => ?_⟩
  obtain ⟨m, hnm, hready⟩ := hfair n
  obtain ⟨v, hrunm, -⟩ := runTicks_next hphase hs he m
  obtain ⟨u, hrunu, hends⟩ := runTicks_succ_ends hphase hs he hrunm
  obtain ⟨hdone, hrep, hcur⟩ := tickRegs_of_ready hready v.regs
  rw [← hends.regs] at hdone hrep hcur
  exact ⟨m + 1, u, Nat.lt_succ_of_le hnm, hrunu, hdone, hrep.trans hcur.symm⟩

/-- Settles O52: no key is reported at reset, so a change is pending exactly if a key is held. -/
theorem firstTickReportsAHeldKey : Obligations.FirstTickReportsAHeldKey := by
  intro i he hready
  obtain ⟨t, hrun, hends⟩ := runTick_ends (s := State.reset) rfl rfl he
  obtain ⟨-, hrep, -⟩ := tickRegs_of_ready hready State.reset.regs
  rw [← hends.regs] at hrep
  refine ⟨t, hrun, ?_, hrep⟩
  rw [hends.submitted]
  have hchanged : (regsBeforeEmit i State.reset.regs).changed
      = if sample (~~~i.keyN) ≠ noKey then true else false :=
    regsBeforeEmit_changed i State.reset.regs
  by_cases hk : sample (~~~i.keyN) = noKey
  · rw [if_neg (not_not.2 hk)] at hchanged
    rw [tickSubmission, if_neg fun hgo => Bool.false_ne_true (hchanged.symm.trans hgo.2)]
    exact (if_pos hk).symm
  · rw [if_pos hk] at hchanged
    rw [tickSubmission_of_ready hready hchanged]
    exact (congrArg (List.flatMap packetBytes) (build_noKey_note hk)).trans (if_neg hk).symm

end Sys2Proof.Machine
end
